-- ==== Sys2Proof/Word.lean ====
section
/-! DEFINITION. The plain words of the model: bytes and the two colours of a pixel.
Counters are natural numbers and positions are integers, as spec/00_scope.md R4 and section 4 say; only what the spec treats as
bits is a bit vector. -/

namespace Sys2Proof

/-- One byte, 0..255 (spec/00_scope.md section 4). -/
abbrev Byte := BitVec 8

/-- The two colours of a pixel (spec/00_scope.md section 4, spec/10_state.md R34). -/
inductive Colour where
  | white
  | black
  deriving DecidableEq, Repr, Inhabited

/-- `Opp(c)`, the other colour (spec/00_scope.md section 4). -/
def Colour.opp : Colour → Colour
  | .white => .black
  | .black => .white

end Sys2Proof
end

