-- ==== Sys2Proof/Config.lean ====
section
/-! DEFINITION. What an implementation fixes and what the spec leaves free.
The spec leaves the datapath registers, `BITPOS_OUT` and the output bytes `0..ROWS*WIDTH-1` unspecified after a fault
(spec/60_exceptions.md R492, spec/20_memory.md R75, spec/93_implementation_defined.md I7, I8). Each such value is an opaque
constant of this file applied to the number of the free choice (`State.freeCount`): nothing in Lean can evaluate it or prove a
value of it. Log entries 4, 13, 14 and 15. -/

namespace Sys2Proof

/-- The values of the reference-row selector `REF` (spec/10_state.md R36). -/
inductive RefSel where
  /-- `NONE`: there is no reference row. -/
  | none
  /-- `IMAGINARY`: the all-white row of width `WIDTH`. -/
  | imaginary
  /-- `ROWREF(r)`: row `r` of the output space. -/
  | row (r : Nat)
  deriving DecidableEq, Repr, Inhabited

/-- The engine's position in the code stream, which alone decides the code space of the next word
(spec/30_encoding.md R92; log entry 6). -/
inductive Pos where
  /-- the head of the row loop (spec/47_line_orchestrators.md R461 to R463) -/
  | rowStart
  /-- right after the leading EOL of a `DECODE_G3_2D` row (R470) -/
  | tag
  /-- a run position of a 1-D row (spec/45_one_dimensional.md R401) -/
  | run
  /-- a mode position of a 2-D row (spec/46_two_dimensional.md R420) -/
  | mode
  /-- a run position of the first run of a Horizontal mode (R423) -/
  | hRun1
  /-- a run position of the second run of a Horizontal mode (R423) -/
  | hRun2
  deriving DecidableEq, Repr, Inhabited

/-- The registers of natural numbers that a fault leaves unspecified. -/
inductive FreeNat where
  | bitposOut
  | bitpos
  | row
  | unpacked
  | runAcc
  | hRun1
  deriving DecidableEq, Repr, Inhabited

/-- The registers of integers that a fault leaves unspecified. -/
inductive FreeInt where
  | a0
  | b1
  | b2
  | a1
  deriving DecidableEq, Repr, Inhabited

/-- The value that the `n`-th free choice leaves in a register of a natural number. -/
opaque Config.freeNat (n : Nat) (r : FreeNat) : Nat

/-- The value that the `n`-th free choice leaves in a register of an integer. -/
opaque Config.freeInt (n : Nat) (r : FreeInt) : Int

/-- The value that the `n`-th free choice leaves in `COLOR`. -/
opaque Config.freeColour (n : Nat) : Colour

/-- The value that the `n`-th free choice leaves in `REF`. -/
opaque Config.freeRef (n : Nat) : RefSel

/-- The value that the `n`-th free choice leaves in `EOL_SEEN`. -/
opaque Config.freeBit (n : Nat) : Bool

/-- The engine position that the `n`-th free choice leaves. -/
opaque Config.freePos (n : Nat) : Pos

/-- The value that the `n`-th free choice leaves in the output byte at an address. -/
opaque Config.freeByte (n : Nat) (address : Nat) : Byte

/-- `P_COUNTER_BITS`, the open width of the hardware counters (spec/00_scope.md R4, D3). The model's counters are unbounded;
`State.countersFit` of Sys2Proof/Safety.lean says when a hardware of this width refines the model. -/
opaque Config.counterBits : Nat

end Sys2Proof
end

