-- ==== Sys2Proof/Syntax.lean ====
section
/-! DEFINITION. The instructions: the code words of the stream and the commands, one constructor per row of
spec/opcode_table.json (spec/30_encoding.md R91 to R96), the code spaces they belong to, and the entry formats of the
constant tables (spec/10_state.md R40). -/

namespace Sys2Proof

/-- The words of the engine. A run-length word, a mode word, a tag and a command carry no operand in their bits (R94); a leading
EOL carries its number of zeros and an extension escape its five extension bits. -/
inductive Instr where
  -- white terminating codes, runs 0 to 63 (R122 to R185)
  | w0 | w1 | w2 | w3 | w4 | w5 | w6 | w7 | w8 | w9 | w10 | w11 | w12 | w13 | w14 | w15 | w16 | w17 | w18 | w19 | w20
  | w21 | w22 | w23 | w24 | w25 | w26 | w27 | w28 | w29 | w30 | w31 | w32 | w33 | w34 | w35 | w36 | w37 | w38 | w39
  | w40 | w41 | w42 | w43 | w44 | w45 | w46 | w47 | w48 | w49 | w50 | w51 | w52 | w53 | w54 | w55 | w56 | w57 | w58
  | w59 | w60 | w61 | w62 | w63
  -- white makeup and extended makeup codes, runs 64 to 2560 (R186 to R225)
  | wm64 | wm128 | wm192 | wm256 | wm320 | wm384 | wm448 | wm512 | wm576 | wm640 | wm704 | wm768 | wm832 | wm896
  | wm960 | wm1024 | wm1088 | wm1152 | wm1216 | wm1280 | wm1344 | wm1408 | wm1472 | wm1536 | wm1600 | wm1664 | wm1728
  | wm1792 | wm1856 | wm1920 | wm1984 | wm2048 | wm2112 | wm2176 | wm2240 | wm2304 | wm2368 | wm2432 | wm2496
  | wm2560
  /-- the EOL entry of the white table (R226) -/
  | wEol
  -- black terminating codes, runs 0 to 63 (R227 to R290)
  | b0 | b1 | b2 | b3 | b4 | b5 | b6 | b7 | b8 | b9 | b10 | b11 | b12 | b13 | b14 | b15 | b16 | b17 | b18 | b19 | b20
  | b21 | b22 | b23 | b24 | b25 | b26 | b27 | b28 | b29 | b30 | b31 | b32 | b33 | b34 | b35 | b36 | b37 | b38 | b39
  | b40 | b41 | b42 | b43 | b44 | b45 | b46 | b47 | b48 | b49 | b50 | b51 | b52 | b53 | b54 | b55 | b56 | b57 | b58
  | b59 | b60 | b61 | b62 | b63
  -- black makeup and extended makeup codes, runs 64 to 2560 (R291 to R330)
  | bm64 | bm128 | bm192 | bm256 | bm320 | bm384 | bm448 | bm512 | bm576 | bm640 | bm704 | bm768 | bm832 | bm896
  | bm960 | bm1024 | bm1088 | bm1152 | bm1216 | bm1280 | bm1344 | bm1408 | bm1472 | bm1536 | bm1600 | bm1664 | bm1728
  | bm1792 | bm1856 | bm1920 | bm1984 | bm2048 | bm2112 | bm2176 | bm2240 | bm2304 | bm2368 | bm2432 | bm2496
  | bm2560
  /-- the EOL entry of the black table (R331) -/
  | bEol
  /-- the exact 12-bit EOL at a mode position (R350, R421) -/
  | eolAtMode
  /-- Pass (R353, R422) -/
  | p
  /-- Horizontal (R352, R423) -/
  | h
  /-- Vertical modes (R351, R354 to R359, R424 to R430) -/
  | v0 | vr1 | vr2 | vr3 | vl1 | vl2 | vl3
  /-- Extension2D with its extension bits (R360; log entry 16) -/
  | x2d (ext : BitVec 5)
  /-- Extension1D with its extension bits (R361; log entry 16) -/
  | x1d (ext : BitVec 5)
  /-- a leading EOL of `zeros` zero bits and a one bit (R464) -/
  | leol (zeros : Nat)
  /-- the Group 3 2-D tag bit (R470) -/
  | tag1 | tag0
  /-- the commands that `CFG_MODE` selects when `CMD_START` is written (R461, R462, R463, R493) -/
  | decodeG31d | decodeG32d | decodeG4 | cmdReserved
  deriving DecidableEq, Repr

/-- The code spaces (R92). No bit of the stream says which one a word belongs to: the engine's state decides it. -/
inductive CodeSpace where
  /-- the two bits of `CFG_MODE`, when a command may start (spec/10_state.md R22, R26) -/
  | command
  /-- `LEOL`, at the start of a Group 3 row -/
  | rowStart
  /-- `TAG`, right after the leading EOL of a Group 3 2-D row -/
  | tag
  /-- `RLW` and `EOL12` -/
  | white
  /-- `RLB` and `EOL12` -/
  | black
  /-- `EOL12`, `MODE` and `MODEXT`, at a mode position of a 2-D row -/
  | mode
  /-- the engine reads no word here: the start of a Group 4 row, or the end of the row loop -/
  | none
  deriving DecidableEq, Repr

/-- What a run-length entry does to its run (R40, R332). -/
inductive RunKind where
  | terminating
  | makeup
  | endOfLine
  deriving DecidableEq, Repr

/-- An entry of `WHITE_TABLE` or `BLACK_TABLE` (R40); `instr` names the word. -/
structure RunEntry where
  instr : Instr
  code : Nat
  bitsRequired : Nat
  runLength : Nat
  kind : RunKind
  deriving DecidableEq, Repr

/-- The eleven modes of `MODE_TABLE` (R96). -/
inductive Mode where
  | pass | horizontal
  | vertical0 | verticalR1 | verticalR2 | verticalR3 | verticalL1 | verticalL2 | verticalL3
  | extension2D | extension1D
  deriving DecidableEq, Repr

/-- An entry of `MODE_TABLE` (R40). -/
structure ModeEntry where
  mode : Mode
  code : Nat
  bitsRequired : Nat
  extensionBits : Nat
  deriving DecidableEq, Repr

/-- The three commands and the reserved value of `CFG_MODE` (spec/10_state.md R22). -/
inductive Command where
  | g31d
  | g32d
  | g4
  | reserved
  deriving DecidableEq, Repr

/-- Why the bits at the cursor are no word of the code space. The engine's answer to each is
`Sys2Proof.Machine.noWord` of Sys2Proof/Machine/Rows.lean. -/
inductive DecodeError where
  /-- no run-length code is a prefix of the window (R97, R120) -/
  | runLookupMiss
  /-- no mode code is a prefix of the window (R350; unreachable, R99) -/
  | modeLookupMiss
  /-- no leading EOL begins at the cursor (R464) -/
  | noLeadingEol
  /-- the engine reads no word at this position -/
  | noCodeSpace
  deriving DecidableEq, Repr

end Sys2Proof
end

