-- ==== Sys2Proof/Machine/State.lean ====
section
/-! DEFINITION. The state of the block as plain data (spec/10_state.md), the reasons a step can stop, and the state after reset.
INVENTORY.md, section State, lists every field with the rule that names it and its reset value. -/

namespace Sys2Proof.Machine

/-- A storage space of bytes: (address, byte) pairs in one canonical form, addresses strictly rising and no entry equal to what
an unlisted address reads as (Sys2Proof/Machine/Memory.lean). -/
abbrev Memory := List Host.Cell

/-- The values of `STATUS` (spec/10_state.md R27). -/
inductive Status where
  | idle
  | busy
  | done
  | fault
  deriving DecidableEq, Repr

/-- The values of `FAULT_CODE` (spec/60_exceptions.md R491); their numbers are `faultNumber` of Sys2Proof/Machine/Flags.lean. -/
inductive FaultCode where
  | none
  | unsupportedMode
  | unsupportedPhotometric
  | unsupportedBitsPerSample
  | outputTooSmall
  | unsupportedExtension
  | rlLookupMiss
  | modeLookupMiss
  | unexpectedEol
  | missingEol
  | missingReference
  | overshoot
  | negativeRun
  deriving DecidableEq, Repr

/-- Where the MODEL stops. The block's own faults are no such stop: they are next states (`abort`, spec/60_exceptions.md R492).
No step from a state that meets `State.Inv` of Sys2Proof/Safety.lean ends in one of these (log entry 11). -/
inductive Fault where
  /-- Raised by `fill` when a byte to be written lies at or above `OUTCAP`, an address that does not exist
  (spec/20_memory.md section 1). Safe: the configuration check of R460 keeps every write below `OUTCAP` (R499). -/
  | writeOutsideOutput
  /-- Raised by a mode word when the reference row does not lie below `OUTCAP`. Safe, as above. -/
  | readOutsideOutput
  /-- Raised by a mode word when `REF = NONE`: the spec gives the search no meaning there (spec/44_reference_scanline.md R386).
  Safe: no mode word is read with `REF = NONE` (R471). -/
  | searchWithoutReference
  deriving DecidableEq, Repr

/-- Why `exec` has no meaning for a word in a state. `step` never answers one of these. -/
inductive Refusal where
  /-- Raised by an arm of `exec` whose instruction has no meaning yet; no arm is left. Safe. -/
  | notModelled (mnemonic : String)
  /-- Raised by a code word executed where the engine reads no word of its code space (spec/30_encoding.md R92). Safe: the fetch
  decodes in the code space of the engine's position only. -/
  | outsideCodeSpace
  /-- Raised by a command executed while `CFG_MODE` selects another (spec/10_state.md R22). Safe: the fetch takes the command from
  `CFG_MODE`. -/
  | notTheSelectedCommand
  deriving DecidableEq, Repr

/-- Everything the spec gives the block. -/
structure State where
  -- configuration registers (R21)
  /-- `CFG_MODE` -/
  cfgMode : BitVec 2
  /-- `CFG_LSB_FIRST` -/
  cfgLsbFirst : Bool
  /-- `CFG_PHOTOMETRIC` -/
  cfgPhotometric : Nat
  /-- `CFG_BPS` -/
  cfgBps : Nat
  /-- `CFG_WIDTH` -/
  cfgWidth : Nat
  /-- `CFG_SKIP` -/
  cfgSkip : Nat
  /-- `CFG_REQ` -/
  cfgReq : Nat
  /-- `IN_LEN` -/
  inLen : Nat
  /-- `OUT_CAP` -/
  outCap : Nat
  -- command and status registers (R26 to R29)
  /-- `CMD_START`: the write has set `STATUS = BUSY` and the start sequence of R43 has not run yet (R26; log entry 7). -/
  cmdStart : Bool
  /-- `STATUS` -/
  status : Status
  /-- `FAULT_CODE` -/
  faultCode : FaultCode
  /-- `BITPOS_OUT` -/
  bitposOut : Nat
  -- datapath registers (R31 to R39)
  /-- `BITPOS`, the program counter -/
  bitpos : Nat
  /-- `ROW` -/
  row : Nat
  /-- `A0` -/
  a0 : Int
  /-- `COLOR` -/
  color : Colour
  /-- `UNPACKED` -/
  unpacked : Nat
  /-- `REF` -/
  ref : RefSel
  /-- `EOL_SEEN` -/
  eolSeen : Bool
  /-- `RUN_ACC` -/
  runAcc : Nat
  /-- `H_RUN1` -/
  hRun1 : Nat
  /-- `B1` -/
  b1 : Int
  /-- `B2` -/
  b2 : Int
  /-- `A1` -/
  a1 : Int
  /-- the engine position (spec/30_encoding.md R92; log entry 6) -/
  pos : Pos
  -- storage (spec/20_memory.md section 1)
  /-- the input space -/
  input : Memory
  /-- the output space -/
  output : Memory
  /-- The model's own: the number of the next free choice (log entry 4). -/
  freeCount : Nat
  deriving DecidableEq, Repr

/-- The three outcomes of a step of this machine. -/
abbrev Result := Host.Outcome State Fault Refusal

/-- The block right after hardware reset (spec/10_state.md R44, spec/70_reset_and_hazards.md R531): `STATUS = IDLE`,
`FAULT_CODE = NONE`, `BITPOS_OUT = 0`. DESIGN CHOICE, unsafe: every configuration register is 0 (log entry 1), every datapath
register has its `CMD_START` value of R43 or 0 (log entry 2), both buffers read as 0x00 (log entry 3). -/
def State.reset : State where
  cfgMode := 0#2
  cfgLsbFirst := false
  cfgPhotometric := 0
  cfgBps := 0
  cfgWidth := 0
  cfgSkip := 0
  cfgReq := 0
  inLen := 0
  outCap := 0
  cmdStart := false
  status := .idle
  faultCode := .none
  bitposOut := 0
  bitpos := 0
  row := 0
  a0 := -1
  color := .white
  unpacked := 0
  ref := .none
  eolSeen := false
  runAcc := 0
  hRun1 := 0
  b1 := 0
  b2 := 0
  a1 := 0
  pos := .rowStart
  input := []
  output := []
  freeCount := 0

end Sys2Proof.Machine
end

