-- ==== Sys2Proof/Machine/Flags.lean ====
section
/-! DEFINITION. The block has no program-visible flags (spec/10_state.md preamble). What stands for them is the status side:
the numbers of the fault codes and the classes of their causes. -/

namespace Sys2Proof.Machine

/-- The number of a fault code (spec/60_exceptions.md R491). -/
def faultNumber : FaultCode → Nat
  | .none => 0
  | .unsupportedMode => 1
  | .unsupportedPhotometric => 2
  | .unsupportedBitsPerSample => 3
  | .outputTooSmall => 4
  | .unsupportedExtension => 5
  | .rlLookupMiss => 6
  | .modeLookupMiss => 7
  | .unexpectedEol => 8
  | .missingEol => 9
  | .missingReference => 10
  | .overshoot => 11
  | .negativeRun => 12

end Sys2Proof.Machine
end

