-- ==== Sys2Proof/WellFormed.lean ====
section
/-! DEFINITION. Which terms of `Instr` are words of the stream. -/

namespace Sys2Proof

/-- A leading EOL has at least 11 zeros (spec/30_encoding.md R91, R100). An Extension1D escape is not the exact 12-bit EOL, which
`EOL_AT_MODE` takes first (spec/43_mode_codes.md R350, R361). Every other term is a word as it stands: it has no operand. -/
def Instr.wf : Instr → Bool
  | .leol zeros => decide (11 ≤ zeros)
  | .x1d ext => decide (ext ≠ 1#5)
  | _ => true

end Sys2Proof
end

