-- ==== Sys2Proof/Decode.lean ====
section
/-! DEFINITION. The constant code tables, the decoder of each code space, the encoder, and the host's view of the decoder.
The decoder is total: it takes the bits at the cursor as a list in stream order and answers a word or says by name why there is none. -/

namespace Sys2Proof

/-! ### Bit fields -/

/-- The unsigned number whose bits, most significant first, are the list: the "left-justified" reading of
spec/20_memory.md R63. -/
def bitsToNat (bits : List Bool) : Nat :=
  bits.foldl (fun v b => 2 * v + b.toNat) 0

/-- The `n` bits of `v`, most significant first. -/
def codeBits (n v : Nat) : List Bool :=
  (List.range n).map (fun i => v.testBit (n - 1 - i))

/-- The window of the first `n` bits, zero-padded past the end (R63), as an `n`-bit number. -/
def windowOf (n : Nat) (bits : List Bool) : Nat :=
  bitsToNat ((bits ++ List.replicate n false).take n)

/-! ### The constant tables -/

/-- `WHITE_TABLE`: terminating codes, runs 0 to 63 (R122 to R137). -/
def whiteTableTerminating0 : List RunEntry := [
  ⟨.w0, 0b00110101, 8, 0, .terminating⟩,
  ⟨.w1, 0b000111, 6, 1, .terminating⟩,
  ⟨.w2, 0b0111, 4, 2, .terminating⟩,
  ⟨.w3, 0b1000, 4, 3, .terminating⟩,
  ⟨.w4, 0b1011, 4, 4, .terminating⟩,
  ⟨.w5, 0b1100, 4, 5, .terminating⟩,
  ⟨.w6, 0b1110, 4, 6, .terminating⟩,
  ⟨.w7, 0b1111, 4, 7, .terminating⟩,
  ⟨.w8, 0b10011, 5, 8, .terminating⟩,
  ⟨.w9, 0b10100, 5, 9, .terminating⟩,
  ⟨.w10, 0b00111, 5, 10, .terminating⟩,
  ⟨.w11, 0b01000, 5, 11, .terminating⟩,
  ⟨.w12, 0b001000, 6, 12, .terminating⟩,
  ⟨.w13, 0b000011, 6, 13, .terminating⟩,
  ⟨.w14, 0b110100, 6, 14, .terminating⟩,
  ⟨.w15, 0b110101, 6, 15, .terminating⟩]

/-- `WHITE_TABLE`: terminating codes, runs 0 to 63 (R138 to R153). -/
def whiteTableTerminating1 : List RunEntry := [
  ⟨.w16, 0b101010, 6, 16, .terminating⟩,
  ⟨.w17, 0b101011, 6, 17, .terminating⟩,
  ⟨.w18, 0b0100111, 7, 18, .terminating⟩,
  ⟨.w19, 0b0001100, 7, 19, .terminating⟩,
  ⟨.w20, 0b0001000, 7, 20, .terminating⟩,
  ⟨.w21, 0b0010111, 7, 21, .terminating⟩,
  ⟨.w22, 0b0000011, 7, 22, .terminating⟩,
  ⟨.w23, 0b0000100, 7, 23, .terminating⟩,
  ⟨.w24, 0b0101000, 7, 24, .terminating⟩,
  ⟨.w25, 0b0101011, 7, 25, .terminating⟩,
  ⟨.w26, 0b0010011, 7, 26, .terminating⟩,
  ⟨.w27, 0b0100100, 7, 27, .terminating⟩,
  ⟨.w28, 0b0011000, 7, 28, .terminating⟩,
  ⟨.w29, 0b00000010, 8, 29, .terminating⟩,
  ⟨.w30, 0b00000011, 8, 30, .terminating⟩,
  ⟨.w31, 0b00011010, 8, 31, .terminating⟩]

/-- `WHITE_TABLE`: terminating codes, runs 0 to 63 (R154 to R169). -/
def whiteTableTerminating2 : List RunEntry := [
  ⟨.w32, 0b00011011, 8, 32, .terminating⟩,
  ⟨.w33, 0b00010010, 8, 33, .terminating⟩,
  ⟨.w34, 0b00010011, 8, 34, .terminating⟩,
  ⟨.w35, 0b00010100, 8, 35, .terminating⟩,
  ⟨.w36, 0b00010101, 8, 36, .terminating⟩,
  ⟨.w37, 0b00010110, 8, 37, .terminating⟩,
  ⟨.w38, 0b00010111, 8, 38, .terminating⟩,
  ⟨.w39, 0b00101000, 8, 39, .terminating⟩,
  ⟨.w40, 0b00101001, 8, 40, .terminating⟩,
  ⟨.w41, 0b00101010, 8, 41, .terminating⟩,
  ⟨.w42, 0b00101011, 8, 42, .terminating⟩,
  ⟨.w43, 0b00101100, 8, 43, .terminating⟩,
  ⟨.w44, 0b00101101, 8, 44, .terminating⟩,
  ⟨.w45, 0b00000100, 8, 45, .terminating⟩,
  ⟨.w46, 0b00000101, 8, 46, .terminating⟩,
  ⟨.w47, 0b00001010, 8, 47, .terminating⟩]

/-- `WHITE_TABLE`: terminating codes, runs 0 to 63 (R170 to R185). -/
def whiteTableTerminating3 : List RunEntry := [
  ⟨.w48, 0b00001011, 8, 48, .terminating⟩,
  ⟨.w49, 0b01010010, 8, 49, .terminating⟩,
  ⟨.w50, 0b01010011, 8, 50, .terminating⟩,
  ⟨.w51, 0b01010100, 8, 51, .terminating⟩,
  ⟨.w52, 0b01010101, 8, 52, .terminating⟩,
  ⟨.w53, 0b00100100, 8, 53, .terminating⟩,
  ⟨.w54, 0b00100101, 8, 54, .terminating⟩,
  ⟨.w55, 0b01011000, 8, 55, .terminating⟩,
  ⟨.w56, 0b01011001, 8, 56, .terminating⟩,
  ⟨.w57, 0b01011010, 8, 57, .terminating⟩,
  ⟨.w58, 0b01011011, 8, 58, .terminating⟩,
  ⟨.w59, 0b01001010, 8, 59, .terminating⟩,
  ⟨.w60, 0b01001011, 8, 60, .terminating⟩,
  ⟨.w61, 0b00110010, 8, 61, .terminating⟩,
  ⟨.w62, 0b00110011, 8, 62, .terminating⟩,
  ⟨.w63, 0b00110100, 8, 63, .terminating⟩]

/-- `WHITE_TABLE`: makeup codes, runs 64 to 1728 (R186 to R201). -/
def whiteTableMakeup0 : List RunEntry := [
  ⟨.wm64, 0b11011, 5, 64, .makeup⟩,
  ⟨.wm128, 0b10010, 5, 128, .makeup⟩,
  ⟨.wm192, 0b010111, 6, 192, .makeup⟩,
  ⟨.wm256, 0b0110111, 7, 256, .makeup⟩,
  ⟨.wm320, 0b00110110, 8, 320, .makeup⟩,
  ⟨.wm384, 0b00110111, 8, 384, .makeup⟩,
  ⟨.wm448, 0b01100100, 8, 448, .makeup⟩,
  ⟨.wm512, 0b01100101, 8, 512, .makeup⟩,
  ⟨.wm576, 0b01101000, 8, 576, .makeup⟩,
  ⟨.wm640, 0b01100111, 8, 640, .makeup⟩,
  ⟨.wm704, 0b011001100, 9, 704, .makeup⟩,
  ⟨.wm768, 0b011001101, 9, 768, .makeup⟩,
  ⟨.wm832, 0b011010010, 9, 832, .makeup⟩,
  ⟨.wm896, 0b011010011, 9, 896, .makeup⟩,
  ⟨.wm960, 0b011010100, 9, 960, .makeup⟩,
  ⟨.wm1024, 0b011010101, 9, 1024, .makeup⟩]

/-- `WHITE_TABLE`: makeup codes, runs 64 to 1728 (R202 to R212). -/
def whiteTableMakeup1 : List RunEntry := [
  ⟨.wm1088, 0b011010110, 9, 1088, .makeup⟩,
  ⟨.wm1152, 0b011010111, 9, 1152, .makeup⟩,
  ⟨.wm1216, 0b011011000, 9, 1216, .makeup⟩,
  ⟨.wm1280, 0b011011001, 9, 1280, .makeup⟩,
  ⟨.wm1344, 0b011011010, 9, 1344, .makeup⟩,
  ⟨.wm1408, 0b011011011, 9, 1408, .makeup⟩,
  ⟨.wm1472, 0b010011000, 9, 1472, .makeup⟩,
  ⟨.wm1536, 0b010011001, 9, 1536, .makeup⟩,
  ⟨.wm1600, 0b010011010, 9, 1600, .makeup⟩,
  ⟨.wm1664, 0b011000, 6, 1664, .makeup⟩,
  ⟨.wm1728, 0b010011011, 9, 1728, .makeup⟩]

/-- `WHITE_TABLE`: extended makeup codes, runs 1792 to 2560, and the EOL entry (R213 to R226). -/
def whiteTableExtended : List RunEntry := [
  ⟨.wm1792, 0b00000001000, 11, 1792, .makeup⟩,
  ⟨.wm1856, 0b00000001100, 11, 1856, .makeup⟩,
  ⟨.wm1920, 0b00000001101, 11, 1920, .makeup⟩,
  ⟨.wm1984, 0b000000010010, 12, 1984, .makeup⟩,
  ⟨.wm2048, 0b000000010011, 12, 2048, .makeup⟩,
  ⟨.wm2112, 0b000000010100, 12, 2112, .makeup⟩,
  ⟨.wm2176, 0b000000010101, 12, 2176, .makeup⟩,
  ⟨.wm2240, 0b000000010110, 12, 2240, .makeup⟩,
  ⟨.wm2304, 0b000000010111, 12, 2304, .makeup⟩,
  ⟨.wm2368, 0b000000011100, 12, 2368, .makeup⟩,
  ⟨.wm2432, 0b000000011101, 12, 2432, .makeup⟩,
  ⟨.wm2496, 0b000000011110, 12, 2496, .makeup⟩,
  ⟨.wm2560, 0b000000011111, 12, 2560, .makeup⟩,
  ⟨.wEol, 0b000000000001, 12, 0, .endOfLine⟩]

/-- `WHITE_TABLE`, 105 entries (spec/10_state.md R40, spec/30_encoding.md R95; R122 to R226). -/
def whiteTable : List RunEntry :=
  whiteTableTerminating0 ++
  whiteTableTerminating1 ++
  whiteTableTerminating2 ++
  whiteTableTerminating3 ++
  whiteTableMakeup0 ++
  whiteTableMakeup1 ++
  whiteTableExtended

/-- `BLACK_TABLE`: terminating codes, runs 0 to 63 (R227 to R242). -/
def blackTableTerminating0 : List RunEntry := [
  ⟨.b0, 0b0000110111, 10, 0, .terminating⟩,
  ⟨.b1, 0b010, 3, 1, .terminating⟩,
  ⟨.b2, 0b11, 2, 2, .terminating⟩,
  ⟨.b3, 0b10, 2, 3, .terminating⟩,
  ⟨.b4, 0b011, 3, 4, .terminating⟩,
  ⟨.b5, 0b0011, 4, 5, .terminating⟩,
  ⟨.b6, 0b0010, 4, 6, .terminating⟩,
  ⟨.b7, 0b00011, 5, 7, .terminating⟩,
  ⟨.b8, 0b000101, 6, 8, .terminating⟩,
  ⟨.b9, 0b000100, 6, 9, .terminating⟩,
  ⟨.b10, 0b0000100, 7, 10, .terminating⟩,
  ⟨.b11, 0b0000101, 7, 11, .terminating⟩,
  ⟨.b12, 0b0000111, 7, 12, .terminating⟩,
  ⟨.b13, 0b00000100, 8, 13, .terminating⟩,
  ⟨.b14, 0b00000111, 8, 14, .terminating⟩,
  ⟨.b15, 0b000011000, 9, 15, .terminating⟩]

/-- `BLACK_TABLE`: terminating codes, runs 0 to 63 (R243 to R258). -/
def blackTableTerminating1 : List RunEntry := [
  ⟨.b16, 0b0000010111, 10, 16, .terminating⟩,
  ⟨.b17, 0b0000011000, 10, 17, .terminating⟩,
  ⟨.b18, 0b0000001000, 10, 18, .terminating⟩,
  ⟨.b19, 0b00001100111, 11, 19, .terminating⟩,
  ⟨.b20, 0b00001101000, 11, 20, .terminating⟩,
  ⟨.b21, 0b00001101100, 11, 21, .terminating⟩,
  ⟨.b22, 0b00000110111, 11, 22, .terminating⟩,
  ⟨.b23, 0b00000101000, 11, 23, .terminating⟩,
  ⟨.b24, 0b00000010111, 11, 24, .terminating⟩,
  ⟨.b25, 0b00000011000, 11, 25, .terminating⟩,
  ⟨.b26, 0b000011001010, 12, 26, .terminating⟩,
  ⟨.b27, 0b000011001011, 12, 27, .terminating⟩,
  ⟨.b28, 0b000011001100, 12, 28, .terminating⟩,
  ⟨.b29, 0b000011001101, 12, 29, .terminating⟩,
  ⟨.b30, 0b000001101000, 12, 30, .terminating⟩,
  ⟨.b31, 0b000001101001, 12, 31, .terminating⟩]

/-- `BLACK_TABLE`: terminating codes, runs 0 to 63 (R259 to R274). -/
def blackTableTerminating2 : List RunEntry := [
  ⟨.b32, 0b000001101010, 12, 32, .terminating⟩,
  ⟨.b33, 0b000001101011, 12, 33, .terminating⟩,
  ⟨.b34, 0b000011010010, 12, 34, .terminating⟩,
  ⟨.b35, 0b000011010011, 12, 35, .terminating⟩,
  ⟨.b36, 0b000011010100, 12, 36, .terminating⟩,
  ⟨.b37, 0b000011010101, 12, 37, .terminating⟩,
  ⟨.b38, 0b000011010110, 12, 38, .terminating⟩,
  ⟨.b39, 0b000011010111, 12, 39, .terminating⟩,
  ⟨.b40, 0b000001101100, 12, 40, .terminating⟩,
  ⟨.b41, 0b000001101101, 12, 41, .terminating⟩,
  ⟨.b42, 0b000011011010, 12, 42, .terminating⟩,
  ⟨.b43, 0b000011011011, 12, 43, .terminating⟩,
  ⟨.b44, 0b000001010100, 12, 44, .terminating⟩,
  ⟨.b45, 0b000001010101, 12, 45, .terminating⟩,
  ⟨.b46, 0b000001010110, 12, 46, .terminating⟩,
  ⟨.b47, 0b000001010111, 12, 47, .terminating⟩]

/-- `BLACK_TABLE`: terminating codes, runs 0 to 63 (R275 to R290). -/
def blackTableTerminating3 : List RunEntry := [
  ⟨.b48, 0b000001100100, 12, 48, .terminating⟩,
  ⟨.b49, 0b000001100101, 12, 49, .terminating⟩,
  ⟨.b50, 0b000001010010, 12, 50, .terminating⟩,
  ⟨.b51, 0b000001010011, 12, 51, .terminating⟩,
  ⟨.b52, 0b000000100100, 12, 52, .terminating⟩,
  ⟨.b53, 0b000000110111, 12, 53, .terminating⟩,
  ⟨.b54, 0b000000111000, 12, 54, .terminating⟩,
  ⟨.b55, 0b000000100111, 12, 55, .terminating⟩,
  ⟨.b56, 0b000000101000, 12, 56, .terminating⟩,
  ⟨.b57, 0b000001011000, 12, 57, .terminating⟩,
  ⟨.b58, 0b000001011001, 12, 58, .terminating⟩,
  ⟨.b59, 0b000000101011, 12, 59, .terminating⟩,
  ⟨.b60, 0b000000101100, 12, 60, .terminating⟩,
  ⟨.b61, 0b000001011010, 12, 61, .terminating⟩,
  ⟨.b62, 0b000001100110, 12, 62, .terminating⟩,
  ⟨.b63, 0b000001100111, 12, 63, .terminating⟩]

/-- `BLACK_TABLE`: makeup codes, runs 64 to 1728 (R291 to R306). -/
def blackTableMakeup0 : List RunEntry := [
  ⟨.bm64, 0b0000001111, 10, 64, .makeup⟩,
  ⟨.bm128, 0b000011001000, 12, 128, .makeup⟩,
  ⟨.bm192, 0b000011001001, 12, 192, .makeup⟩,
  ⟨.bm256, 0b000001011011, 12, 256, .makeup⟩,
  ⟨.bm320, 0b000000110011, 12, 320, .makeup⟩,
  ⟨.bm384, 0b000000110100, 12, 384, .makeup⟩,
  ⟨.bm448, 0b000000110101, 12, 448, .makeup⟩,
  ⟨.bm512, 0b0000001101100, 13, 512, .makeup⟩,
  ⟨.bm576, 0b0000001101101, 13, 576, .makeup⟩,
  ⟨.bm640, 0b0000001001010, 13, 640, .makeup⟩,
  ⟨.bm704, 0b0000001001011, 13, 704, .makeup⟩,
  ⟨.bm768, 0b0000001001100, 13, 768, .makeup⟩,
  ⟨.bm832, 0b0000001001101, 13, 832, .makeup⟩,
  ⟨.bm896, 0b0000001110010, 13, 896, .makeup⟩,
  ⟨.bm960, 0b0000001110011, 13, 960, .makeup⟩,
  ⟨.bm1024, 0b0000001110100, 13, 1024, .makeup⟩]

/-- `BLACK_TABLE`: makeup codes, runs 64 to 1728 (R307 to R317). -/
def blackTableMakeup1 : List RunEntry := [
  ⟨.bm1088, 0b0000001110101, 13, 1088, .makeup⟩,
  ⟨.bm1152, 0b0000001110110, 13, 1152, .makeup⟩,
  ⟨.bm1216, 0b0000001110111, 13, 1216, .makeup⟩,
  ⟨.bm1280, 0b0000001010010, 13, 1280, .makeup⟩,
  ⟨.bm1344, 0b0000001010011, 13, 1344, .makeup⟩,
  ⟨.bm1408, 0b0000001010100, 13, 1408, .makeup⟩,
  ⟨.bm1472, 0b0000001010101, 13, 1472, .makeup⟩,
  ⟨.bm1536, 0b0000001011010, 13, 1536, .makeup⟩,
  ⟨.bm1600, 0b0000001011011, 13, 1600, .makeup⟩,
  ⟨.bm1664, 0b0000001100100, 13, 1664, .makeup⟩,
  ⟨.bm1728, 0b0000001100101, 13, 1728, .makeup⟩]

/-- `BLACK_TABLE`: extended makeup codes, runs 1792 to 2560, and the EOL entry (R318 to R331). -/
def blackTableExtended : List RunEntry := [
  ⟨.bm1792, 0b00000001000, 11, 1792, .makeup⟩,
  ⟨.bm1856, 0b00000001100, 11, 1856, .makeup⟩,
  ⟨.bm1920, 0b00000001101, 11, 1920, .makeup⟩,
  ⟨.bm1984, 0b000000010010, 12, 1984, .makeup⟩,
  ⟨.bm2048, 0b000000010011, 12, 2048, .makeup⟩,
  ⟨.bm2112, 0b000000010100, 12, 2112, .makeup⟩,
  ⟨.bm2176, 0b000000010101, 12, 2176, .makeup⟩,
  ⟨.bm2240, 0b000000010110, 12, 2240, .makeup⟩,
  ⟨.bm2304, 0b000000010111, 12, 2304, .makeup⟩,
  ⟨.bm2368, 0b000000011100, 12, 2368, .makeup⟩,
  ⟨.bm2432, 0b000000011101, 12, 2432, .makeup⟩,
  ⟨.bm2496, 0b000000011110, 12, 2496, .makeup⟩,
  ⟨.bm2560, 0b000000011111, 12, 2560, .makeup⟩,
  ⟨.bEol, 0b000000000001, 12, 0, .endOfLine⟩]

/-- `BLACK_TABLE`, 105 entries (spec/10_state.md R40, spec/30_encoding.md R95; R227 to R331). -/
def blackTable : List RunEntry :=
  blackTableTerminating0 ++
  blackTableTerminating1 ++
  blackTableTerminating2 ++
  blackTableTerminating3 ++
  blackTableMakeup0 ++
  blackTableMakeup1 ++
  blackTableExtended

/-- `MODE_TABLE`, 11 entries (spec/10_state.md R40, spec/30_encoding.md R96, spec/43_mode_codes.md R351 to R361). -/
def modeTable : List ModeEntry := [
  ⟨.vertical0, 0b1, 1, 0⟩,
  ⟨.horizontal, 0b001, 3, 0⟩,
  ⟨.pass, 0b0001, 4, 0⟩,
  ⟨.verticalR1, 0b011, 3, 0⟩,
  ⟨.verticalL1, 0b010, 3, 0⟩,
  ⟨.verticalR2, 0b000011, 6, 0⟩,
  ⟨.verticalL2, 0b000010, 6, 0⟩,
  ⟨.verticalR3, 0b0000011, 7, 0⟩,
  ⟨.verticalL3, 0b0000010, 7, 0⟩,
  ⟨.extension2D, 0b0000001, 7, 5⟩,
  ⟨.extension1D, 0b0000000, 7, 5⟩]

/-- The word of a mode entry; the extension escapes carry the extension bits of the window. -/
def modeInstr (ext : BitVec 5) : Mode → Instr
  | .pass => .p
  | .horizontal => .h
  | .vertical0 => .v0
  | .verticalR1 => .vr1
  | .verticalR2 => .vr2
  | .verticalR3 => .vr3
  | .verticalL1 => .vl1
  | .verticalL2 => .vl2
  | .verticalL3 => .vl3
  | .extension2D => .x2d ext
  | .extension1D => .x1d ext

/-- The run-length table of a colour: `table(c)` (spec/46_two_dimensional.md R423). -/
def runTable : Colour → List RunEntry
  | .white => whiteTable
  | .black => blackTable

/-! ### The decoders -/

/-- `Lookup(T, w)` on a 16-bit window: the entry whose code is a prefix of the window (spec/41_run_length_codes.md R120,
spec/30_encoding.md R93). -/
def runLookup (table : List RunEntry) (w : Nat) : Option RunEntry :=
  table.find? (fun e => w >>> (16 - e.bitsRequired) == e.code)

/-- The `MODE_TABLE` entry whose code is a prefix of a 7-bit window (spec/43_mode_codes.md R350). -/
def modeLookup (w7 : Nat) : Option ModeEntry :=
  modeTable.find? (fun e => w7 >>> (7 - e.bitsRequired) == e.code)

/-- A word of the run-length space of `table`, from a 16-bit window (R120). -/
def decodeRunWindow (table : List RunEntry) (w : Nat) : Except DecodeError Instr :=
  match runLookup table w with
  | some e => .ok e.instr
  | none => .error .runLookupMiss

/-- `ModeDecode` on a 12-bit window: the exact EOL is tested first, then the first seven bits select an entry (R350). -/
def decodeModeWindow (w : Nat) : Except DecodeError Instr :=
  if w = 0b000000000001 then .ok .eolAtMode
  else
    match modeLookup (w >>> 5) with
    | some e => .ok (modeInstr (BitVec.ofNat 5 w) e.mode)
    | none => .error .modeLookupMiss

/-- `LeadingEOL` on the bits from the cursor to the end of the buffer: at least 11 zeros and then a one that lies inside the buffer
(spec/47_line_orchestrators.md R464). -/
def decodeLeadingEol (bits : List Bool) : Except DecodeError Instr :=
  let zeros := (bits.takeWhile (fun b => !b)).length
  if zeros < bits.length ∧ 11 ≤ zeros then .ok (.leol zeros) else .error .noLeadingEol

/-- The tag bit (R470). -/
def decodeTag (w : Nat) : Instr :=
  if w = 1 then .tag1 else .tag0

/-- The command that a value of `CFG_MODE` selects (spec/10_state.md R22). -/
def commandOf (mode : BitVec 2) : Command :=
  if mode = 0#2 then .g31d else if mode = 1#2 then .g32d else if mode = 2#2 then .g4 else .reserved

/-- The opcode-table row of a command. -/
def commandInstr : Command → Instr
  | .g31d => .decodeG31d
  | .g32d => .decodeG32d
  | .g4 => .decodeG4
  | .reserved => .cmdReserved

/-- The decoder: the word of code space `sp` that begins with these bits, the bits in stream order (spec/30_encoding.md R92, R93,
R101). Windows are zero-padded past the end of the list, but a leading EOL lies inside it. -/
def decode (sp : CodeSpace) (bits : List Bool) : Except DecodeError Instr :=
  match sp with
  | .command => .ok (commandInstr (commandOf (BitVec.ofNat 2 (windowOf 2 bits))))
  | .rowStart => decodeLeadingEol bits
  | .tag => .ok (decodeTag (windowOf 1 bits))
  | .white => decodeRunWindow (runTable .white) (windowOf 16 bits)
  | .black => decodeRunWindow (runTable .black) (windowOf 16 bits)
  | .mode => decodeModeWindow (windowOf 12 bits)
  | .none => .error .noCodeSpace

/-! ### The encoder -/

/-- The code space a word belongs to (R91, R92). -/
def Instr.space : Instr → CodeSpace
  | .w0 | .w1 | .w2 | .w3 | .w4 | .w5 | .w6 | .w7 | .w8 | .w9 | .w10 | .w11 | .w12 | .w13 | .w14 | .w15 | .w16 | .w17
  | .w18 | .w19 | .w20 | .w21 | .w22 | .w23 | .w24 | .w25 | .w26 | .w27 | .w28 | .w29 | .w30 | .w31 | .w32 | .w33
  | .w34 | .w35 | .w36 | .w37 | .w38 | .w39 | .w40 | .w41 | .w42 | .w43 | .w44 | .w45 | .w46 | .w47 | .w48 | .w49
  | .w50 | .w51 | .w52 | .w53 | .w54 | .w55 | .w56 | .w57 | .w58 | .w59 | .w60 | .w61 | .w62 | .w63 | .wm64 | .wm128
  | .wm192 | .wm256 | .wm320 | .wm384 | .wm448 | .wm512 | .wm576 | .wm640 | .wm704 | .wm768 | .wm832 | .wm896
  | .wm960 | .wm1024 | .wm1088 | .wm1152 | .wm1216 | .wm1280 | .wm1344 | .wm1408 | .wm1472 | .wm1536 | .wm1600
  | .wm1664 | .wm1728 | .wm1792 | .wm1856 | .wm1920 | .wm1984 | .wm2048 | .wm2112 | .wm2176 | .wm2240 | .wm2304
  | .wm2368 | .wm2432 | .wm2496 | .wm2560 | .wEol
    => .white
  | .b0 | .b1 | .b2 | .b3 | .b4 | .b5 | .b6 | .b7 | .b8 | .b9 | .b10 | .b11 | .b12 | .b13 | .b14 | .b15 | .b16 | .b17
  | .b18 | .b19 | .b20 | .b21 | .b22 | .b23 | .b24 | .b25 | .b26 | .b27 | .b28 | .b29 | .b30 | .b31 | .b32 | .b33
  | .b34 | .b35 | .b36 | .b37 | .b38 | .b39 | .b40 | .b41 | .b42 | .b43 | .b44 | .b45 | .b46 | .b47 | .b48 | .b49
  | .b50 | .b51 | .b52 | .b53 | .b54 | .b55 | .b56 | .b57 | .b58 | .b59 | .b60 | .b61 | .b62 | .b63 | .bm64 | .bm128
  | .bm192 | .bm256 | .bm320 | .bm384 | .bm448 | .bm512 | .bm576 | .bm640 | .bm704 | .bm768 | .bm832 | .bm896
  | .bm960 | .bm1024 | .bm1088 | .bm1152 | .bm1216 | .bm1280 | .bm1344 | .bm1408 | .bm1472 | .bm1536 | .bm1600
  | .bm1664 | .bm1728 | .bm1792 | .bm1856 | .bm1920 | .bm1984 | .bm2048 | .bm2112 | .bm2176 | .bm2240 | .bm2304
  | .bm2368 | .bm2432 | .bm2496 | .bm2560 | .bEol
    => .black
  | .eolAtMode | .p | .h | .v0 | .vr1 | .vr2 | .vr3 | .vl1 | .vl2 | .vl3 | .x2d _ | .x1d _ => .mode
  | .leol _ => .rowStart
  | .tag1 | .tag0 => .tag
  | .decodeG31d | .decodeG32d | .decodeG4 | .cmdReserved => .command

/-- The bits of a word in stream order: the code listed for its row (R122 to R331, R351 to R361, R421, R464, R470); a command is
the two bits of `CFG_MODE` (R461, R462, R463, R493). -/
def encode : Instr → List Bool
  | .w0 => codeBits 8 0b00110101
  | .w1 => codeBits 6 0b000111
  | .w2 => codeBits 4 0b0111
  | .w3 => codeBits 4 0b1000
  | .w4 => codeBits 4 0b1011
  | .w5 => codeBits 4 0b1100
  | .w6 => codeBits 4 0b1110
  | .w7 => codeBits 4 0b1111
  | .w8 => codeBits 5 0b10011
  | .w9 => codeBits 5 0b10100
  | .w10 => codeBits 5 0b00111
  | .w11 => codeBits 5 0b01000
  | .w12 => codeBits 6 0b001000
  | .w13 => codeBits 6 0b000011
  | .w14 => codeBits 6 0b110100
  | .w15 => codeBits 6 0b110101
  | .w16 => codeBits 6 0b101010
  | .w17 => codeBits 6 0b101011
  | .w18 => codeBits 7 0b0100111
  | .w19 => codeBits 7 0b0001100
  | .w20 => codeBits 7 0b0001000
  | .w21 => codeBits 7 0b0010111
  | .w22 => codeBits 7 0b0000011
  | .w23 => codeBits 7 0b0000100
  | .w24 => codeBits 7 0b0101000
  | .w25 => codeBits 7 0b0101011
  | .w26 => codeBits 7 0b0010011
  | .w27 => codeBits 7 0b0100100
  | .w28 => codeBits 7 0b0011000
  | .w29 => codeBits 8 0b00000010
  | .w30 => codeBits 8 0b00000011
  | .w31 => codeBits 8 0b00011010
  | .w32 => codeBits 8 0b00011011
  | .w33 => codeBits 8 0b00010010
  | .w34 => codeBits 8 0b00010011
  | .w35 => codeBits 8 0b00010100
  | .w36 => codeBits 8 0b00010101
  | .w37 => codeBits 8 0b00010110
  | .w38 => codeBits 8 0b00010111
  | .w39 => codeBits 8 0b00101000
  | .w40 => codeBits 8 0b00101001
  | .w41 => codeBits 8 0b00101010
  | .w42 => codeBits 8 0b00101011
  | .w43 => codeBits 8 0b00101100
  | .w44 => codeBits 8 0b00101101
  | .w45 => codeBits 8 0b00000100
  | .w46 => codeBits 8 0b00000101
  | .w47 => codeBits 8 0b00001010
  | .w48 => codeBits 8 0b00001011
  | .w49 => codeBits 8 0b01010010
  | .w50 => codeBits 8 0b01010011
  | .w51 => codeBits 8 0b01010100
  | .w52 => codeBits 8 0b01010101
  | .w53 => codeBits 8 0b00100100
  | .w54 => codeBits 8 0b00100101
  | .w55 => codeBits 8 0b01011000
  | .w56 => codeBits 8 0b01011001
  | .w57 => codeBits 8 0b01011010
  | .w58 => codeBits 8 0b01011011
  | .w59 => codeBits 8 0b01001010
  | .w60 => codeBits 8 0b01001011
  | .w61 => codeBits 8 0b00110010
  | .w62 => codeBits 8 0b00110011
  | .w63 => codeBits 8 0b00110100
  | .wm64 => codeBits 5 0b11011
  | .wm128 => codeBits 5 0b10010
  | .wm192 => codeBits 6 0b010111
  | .wm256 => codeBits 7 0b0110111
  | .wm320 => codeBits 8 0b00110110
  | .wm384 => codeBits 8 0b00110111
  | .wm448 => codeBits 8 0b01100100
  | .wm512 => codeBits 8 0b01100101
  | .wm576 => codeBits 8 0b01101000
  | .wm640 => codeBits 8 0b01100111
  | .wm704 => codeBits 9 0b011001100
  | .wm768 => codeBits 9 0b011001101
  | .wm832 => codeBits 9 0b011010010
  | .wm896 => codeBits 9 0b011010011
  | .wm960 => codeBits 9 0b011010100
  | .wm1024 => codeBits 9 0b011010101
  | .wm1088 => codeBits 9 0b011010110
  | .wm1152 => codeBits 9 0b011010111
  | .wm1216 => codeBits 9 0b011011000
  | .wm1280 => codeBits 9 0b011011001
  | .wm1344 => codeBits 9 0b011011010
  | .wm1408 => codeBits 9 0b011011011
  | .wm1472 => codeBits 9 0b010011000
  | .wm1536 => codeBits 9 0b010011001
  | .wm1600 => codeBits 9 0b010011010
  | .wm1664 => codeBits 6 0b011000
  | .wm1728 => codeBits 9 0b010011011
  | .wm1792 => codeBits 11 0b00000001000
  | .wm1856 => codeBits 11 0b00000001100
  | .wm1920 => codeBits 11 0b00000001101
  | .wm1984 => codeBits 12 0b000000010010
  | .wm2048 => codeBits 12 0b000000010011
  | .wm2112 => codeBits 12 0b000000010100
  | .wm2176 => codeBits 12 0b000000010101
  | .wm2240 => codeBits 12 0b000000010110
  | .wm2304 => codeBits 12 0b000000010111
  | .wm2368 => codeBits 12 0b000000011100
  | .wm2432 => codeBits 12 0b000000011101
  | .wm2496 => codeBits 12 0b000000011110
  | .wm2560 => codeBits 12 0b000000011111
  | .wEol => codeBits 12 0b000000000001
  | .b0 => codeBits 10 0b0000110111
  | .b1 => codeBits 3 0b010
  | .b2 => codeBits 2 0b11
  | .b3 => codeBits 2 0b10
  | .b4 => codeBits 3 0b011
  | .b5 => codeBits 4 0b0011
  | .b6 => codeBits 4 0b0010
  | .b7 => codeBits 5 0b00011
  | .b8 => codeBits 6 0b000101
  | .b9 => codeBits 6 0b000100
  | .b10 => codeBits 7 0b0000100
  | .b11 => codeBits 7 0b0000101
  | .b12 => codeBits 7 0b0000111
  | .b13 => codeBits 8 0b00000100
  | .b14 => codeBits 8 0b00000111
  | .b15 => codeBits 9 0b000011000
  | .b16 => codeBits 10 0b0000010111
  | .b17 => codeBits 10 0b0000011000
  | .b18 => codeBits 10 0b0000001000
  | .b19 => codeBits 11 0b00001100111
  | .b20 => codeBits 11 0b00001101000
  | .b21 => codeBits 11 0b00001101100
  | .b22 => codeBits 11 0b00000110111
  | .b23 => codeBits 11 0b00000101000
  | .b24 => codeBits 11 0b00000010111
  | .b25 => codeBits 11 0b00000011000
  | .b26 => codeBits 12 0b000011001010
  | .b27 => codeBits 12 0b000011001011
  | .b28 => codeBits 12 0b000011001100
  | .b29 => codeBits 12 0b000011001101
  | .b30 => codeBits 12 0b000001101000
  | .b31 => codeBits 12 0b000001101001
  | .b32 => codeBits 12 0b000001101010
  | .b33 => codeBits 12 0b000001101011
  | .b34 => codeBits 12 0b000011010010
  | .b35 => codeBits 12 0b000011010011
  | .b36 => codeBits 12 0b000011010100
  | .b37 => codeBits 12 0b000011010101
  | .b38 => codeBits 12 0b000011010110
  | .b39 => codeBits 12 0b000011010111
  | .b40 => codeBits 12 0b000001101100
  | .b41 => codeBits 12 0b000001101101
  | .b42 => codeBits 12 0b000011011010
  | .b43 => codeBits 12 0b000011011011
  | .b44 => codeBits 12 0b000001010100
  | .b45 => codeBits 12 0b000001010101
  | .b46 => codeBits 12 0b000001010110
  | .b47 => codeBits 12 0b000001010111
  | .b48 => codeBits 12 0b000001100100
  | .b49 => codeBits 12 0b000001100101
  | .b50 => codeBits 12 0b000001010010
  | .b51 => codeBits 12 0b000001010011
  | .b52 => codeBits 12 0b000000100100
  | .b53 => codeBits 12 0b000000110111
  | .b54 => codeBits 12 0b000000111000
  | .b55 => codeBits 12 0b000000100111
  | .b56 => codeBits 12 0b000000101000
  | .b57 => codeBits 12 0b000001011000
  | .b58 => codeBits 12 0b000001011001
  | .b59 => codeBits 12 0b000000101011
  | .b60 => codeBits 12 0b000000101100
  | .b61 => codeBits 12 0b000001011010
  | .b62 => codeBits 12 0b000001100110
  | .b63 => codeBits 12 0b000001100111
  | .bm64 => codeBits 10 0b0000001111
  | .bm128 => codeBits 12 0b000011001000
  | .bm192 => codeBits 12 0b000011001001
  | .bm256 => codeBits 12 0b000001011011
  | .bm320 => codeBits 12 0b000000110011
  | .bm384 => codeBits 12 0b000000110100
  | .bm448 => codeBits 12 0b000000110101
  | .bm512 => codeBits 13 0b0000001101100
  | .bm576 => codeBits 13 0b0000001101101
  | .bm640 => codeBits 13 0b0000001001010
  | .bm704 => codeBits 13 0b0000001001011
  | .bm768 => codeBits 13 0b0000001001100
  | .bm832 => codeBits 13 0b0000001001101
  | .bm896 => codeBits 13 0b0000001110010
  | .bm960 => codeBits 13 0b0000001110011
  | .bm1024 => codeBits 13 0b0000001110100
  | .bm1088 => codeBits 13 0b0000001110101
  | .bm1152 => codeBits 13 0b0000001110110
  | .bm1216 => codeBits 13 0b0000001110111
  | .bm1280 => codeBits 13 0b0000001010010
  | .bm1344 => codeBits 13 0b0000001010011
  | .bm1408 => codeBits 13 0b0000001010100
  | .bm1472 => codeBits 13 0b0000001010101
  | .bm1536 => codeBits 13 0b0000001011010
  | .bm1600 => codeBits 13 0b0000001011011
  | .bm1664 => codeBits 13 0b0000001100100
  | .bm1728 => codeBits 13 0b0000001100101
  | .bm1792 => codeBits 11 0b00000001000
  | .bm1856 => codeBits 11 0b00000001100
  | .bm1920 => codeBits 11 0b00000001101
  | .bm1984 => codeBits 12 0b000000010010
  | .bm2048 => codeBits 12 0b000000010011
  | .bm2112 => codeBits 12 0b000000010100
  | .bm2176 => codeBits 12 0b000000010101
  | .bm2240 => codeBits 12 0b000000010110
  | .bm2304 => codeBits 12 0b000000010111
  | .bm2368 => codeBits 12 0b000000011100
  | .bm2432 => codeBits 12 0b000000011101
  | .bm2496 => codeBits 12 0b000000011110
  | .bm2560 => codeBits 12 0b000000011111
  | .bEol => codeBits 12 0b000000000001
  | .eolAtMode => codeBits 12 0b000000000001
  | .p => codeBits 4 0b0001
  | .h => codeBits 3 0b001
  | .v0 => codeBits 1 0b1
  | .vr1 => codeBits 3 0b011
  | .vr2 => codeBits 6 0b000011
  | .vr3 => codeBits 7 0b0000011
  | .vl1 => codeBits 3 0b010
  | .vl2 => codeBits 6 0b000010
  | .vl3 => codeBits 7 0b0000010
  | .x2d ext => codeBits 7 0b0000001 ++ codeBits 5 ext.toNat
  | .x1d ext => codeBits 7 0b0000000 ++ codeBits 5 ext.toNat
  | .leol zeros => List.replicate zeros false ++ [true]
  | .tag1 => codeBits 1 0b1
  | .tag0 => codeBits 1 0b0
  | .decodeG31d => codeBits 2 0b00
  | .decodeG32d => codeBits 2 0b01
  | .decodeG4 => codeBits 2 0b10
  | .cmdReserved => codeBits 2 0b11

/-! ### The host's view: words numbered as spec/opcode_table.json numbers them

A table row shows a word left-justified in a window: 16 bits for a run-length word, 12 for a mode word, 1 for a tag, 2 for a
command. The number does not say its code space, and the same number is a word of several spaces (R92), so the host's view has to
choose one: log entry 8 gives the choice. -/

/-- `w` is the table's own number for the word that the bits decode to: the code, and zeros in all the bits the row leaves open. -/
def tableNumberIs (sp : CodeSpace) (n w : Nat) : Bool :=
  match decode sp (codeBits n w) with
  | .ok i => windowOf n (encode i) == w
  | .error _ => false

/-- The code space in which the host's view reads a table word, and the number of bits of its window (log entry 8). Bits above the
window are stream bits that follow the window and are no part of the word. A mode row's own number leaves the five bits
after the longest mode code zero, but for the EOL's. -/
def tableSpace (nbits w : Nat) : CodeSpace × Nat :=
  if nbits ≤ 1 then (.tag, 1)
  else if nbits ≤ 8 then (.command, 2)
  else if nbits ≤ 12 then (.mode, 12)
  else if w % 65536 < 4096 ∧ (w % 32 = 0 ∨ w % 65536 = 1) ∧ tableNumberIs .mode 12 (w % 65536) then (.mode, 12)
  else if tableNumberIs .white 16 (w % 65536) then (.white, 16)
  else if tableNumberIs .black 16 (w % 65536) then (.black, 16)
  else (.white, 16)

/-- The bits, in stream order, of a table word in the space that the host's view chose. -/
def tableBits (nbits w : Nat) : List Bool :=
  codeBits (tableSpace nbits w).2 w

/-- What the decoder reads from a table word. -/
def decodeTableWord (nbits w : Nat) : Option Instr :=
  match decode (tableSpace nbits w).1 (tableBits nbits w) with
  | .ok i => some i
  | .error _ => none

end Sys2Proof
end

