-- ==== Sys2Proof/Machine/Memory.lean ====
section
/-! DEFINITION. The operations over a storage space of bytes. -/

namespace Sys2Proof.Machine

/-- What an unlisted address reads as (log entry 3: DESIGN CHOICE, unsafe). -/
def Memory.default : Byte := 0x00#8

/-- Every listed address is above `low`, addresses strictly rise, and no entry reads as an unlisted address does. -/
def Memory.wfAbove (low : Nat) : Memory → Bool
  | [] => true
  | (a, v) :: m => decide (low ≤ a) && decide (v ≠ Memory.default) && Memory.wfAbove (a + 1) m

/-- The canonical form of a storage space: equal memories are equal data. -/
def Memory.wf (m : Memory) : Bool :=
  Memory.wfAbove 0 m

/-- The byte at an address. -/
def Memory.read : Memory → Nat → Byte
  | [], _ => Memory.default
  | (b, v) :: m, a => if b = a then v else Memory.read m a

/-- Put an entry in front, unless it reads as an unlisted address does. -/
def Memory.entry (a : Nat) (v : Byte) (m : Memory) : Memory :=
  if v = Memory.default then m else (a, v) :: m

/-- Write one byte (spec/20_memory.md R70), keeping the canonical form. -/
def Memory.write : Memory → Nat → Byte → Memory
  | [], a, v => Memory.entry a v []
  | (b, u) :: m, a, v =>
    if a < b then Memory.entry a v ((b, u) :: m)
    else if a = b then Memory.entry a v m
    else (b, u) :: Memory.write m a v

/-- Write `v` to the `n` bytes from `a` on (spec/20_memory.md R71). -/
def Memory.fill (m : Memory) (a : Nat) (v : Byte) : Nat → Memory
  | 0 => m
  | n + 1 => Memory.write (Memory.fill m a v n) (a + n) v

/-- Write a list of bytes from `a` on. -/
def Memory.load (m : Memory) (a : Nat) : List Byte → Memory
  | [] => m
  | v :: vs => Memory.load (Memory.write m a v) (a + 1) vs

/-- Leave the first `k` bytes to the `n`-th free choice (spec/20_memory.md R75; log entry 4). -/
def Memory.unspecified (m : Memory) (n : Nat) : Nat → Memory
  | 0 => m
  | k + 1 => Memory.write (Memory.unspecified m n k) k (Config.freeByte n k)

end Sys2Proof.Machine
end

