-- ==== Sys2Proof/Machine/Operands.lean ====
section
/-! DEFINITION. The operands of the words: the bits at the cursor, the output byte of a colour, the code space of the engine's
position, and the changing elements b1 and b2 of the reference row. All of them only read the state. -/

namespace Sys2Proof.Machine

/-! ### Derived values of the configuration -/

/-- `ROWS = CFG_SKIP + CFG_REQ` (spec/10_state.md R24). -/
def State.rows (s : State) : Nat :=
  s.cfgSkip + s.cfgReq

/-- The command that `CFG_MODE` selects (spec/10_state.md R22). -/
def State.command (s : State) : Command :=
  commandOf s.cfgMode

/-- `Byte(c)` (spec/10_state.md R25): WhiteIsZero (0) or BlackIsZero (1); any other value of `CFG_PHOTOMETRIC` faults before the
byte is used (R460), and reads here as BlackIsZero (log entry 11). -/
def State.byteOf (s : State) (c : Colour) : Byte :=
  match c with
  | .white => if s.cfgPhotometric = 0 then 0x00#8 else 0xFF#8
  | .black => if s.cfgPhotometric = 0 then 0xFF#8 else 0x00#8

/-! ### The bit reader -/

/-- Bit `j` of an input byte in consumption order (spec/20_memory.md R62). -/
def streamBitOf (lsbFirst : Bool) (b : Byte) (j : Nat) : Bool :=
  if lsbFirst then b.getLsbD j else b.getLsbD (7 - j)

/-- `InByte(i)` (spec/20_memory.md R61). -/
def State.inByte (s : State) (i : Nat) : Byte :=
  s.input.read i

/-- `StreamBit(k)` (spec/20_memory.md R62): bits past the end of the input read as 0. -/
def State.streamBit (s : State) (k : Nat) : Bool :=
  if 8 * s.inLen ≤ k then false
  else streamBitOf s.cfgLsbFirst (s.inByte (k / 8)) (k % 8)

/-- The next `n` stream bits, first bit first. -/
def State.peekBits (s : State) (n : Nat) : List Bool :=
  (List.range n).map (fun i => s.streamBit (s.bitpos + i))

/-- `Peek(n)` (spec/20_memory.md R63). -/
def State.peek (s : State) (n : Nat) : Nat :=
  bitsToNat (s.peekBits n)

/-- The stream bits from the cursor to the end of the input, which is all that `LeadingEOL` looks at
(spec/47_line_orchestrators.md R464). -/
def State.bitsToEnd (s : State) : List Bool :=
  s.peekBits (8 * s.inLen - s.bitpos)

/-! ### The code space of the engine's position (spec/30_encoding.md R92) -/

/-- The run-length space of a colour: `table(c)` (spec/46_two_dimensional.md R423). -/
def runSpace : Colour → CodeSpace
  | .white => .white
  | .black => .black

/-- The code space at the head of the row loop: a Group 3 row begins with a leading EOL, optional (R465) or required (R469), a Group
4 row reads no word of its own, and after the last row there is nothing to read. -/
def State.rowStartSpace (s : State) : CodeSpace :=
  if s.row < s.rows then
    match s.command with
    | .g31d => .rowStart
    | .g32d => .rowStart
    | .g4 => .none
    | .reserved => .none
  else .none

/-- The code space of the engine's position. -/
def State.posSpace (s : State) : CodeSpace :=
  match s.pos with
  | .rowStart => s.rowStartSpace
  | .tag => .tag
  | .run => runSpace s.color
  | .mode => .mode
  | .hRun1 => runSpace s.color
  | .hRun2 => runSpace s.color.opp

/-- The code space in which the next word is read: none while no command runs; that of the commands right after the write of
`CMD_START` (spec/10_state.md R26); else that of the engine's position. -/
def State.codeSpace (s : State) : CodeSpace :=
  match s.status with
  | .busy => if s.cmdStart then .command else s.posSpace
  | .idle => .none
  | .done => .none
  | .fault => .none

/-! ### The reference row (spec/44_reference_scanline.md) -/

/-- Why the reference row that `REF` selects cannot be searched, if it cannot (log entry 11). -/
def State.refProblem (s : State) : Option Fault :=
  match s.ref with
  | .none => some .searchWithoutReference
  | .imaginary => none
  | .row r => if (r + 1) * s.cfgWidth ≤ s.outCap then none else some .readOutsideOutput

/-- `RefPixel(i)` of row `r` (spec/20_memory.md R73). -/
def State.refPixel (s : State) (r i : Nat) : Byte :=
  s.output.read (r * s.cfgWidth + i)

/-- `Changing(i)` on row `r` (spec/44_reference_scanline.md R381), for `i < WIDTH`. -/
def State.changing (s : State) (r i : Nat) : Bool :=
  if i = 0 then decide (s.refPixel r 0 ≠ s.byteOf .white)
  else decide (s.refPixel r i ≠ s.refPixel r (i - 1))

/-- `FindB1(a0, c)` (R382 on a real row, R384 on the imaginary one). -/
def State.findB1 (s : State) (a0 : Int) (c : Colour) : Nat :=
  match s.ref with
  | .row r =>
    ((List.range s.cfgWidth).find?
      (fun (i : Nat) => decide (a0 < (i : Int)) && s.changing r i && decide (s.refPixel r i ≠ s.byteOf c))).getD s.cfgWidth
  | .imaginary => s.cfgWidth
  | .none => s.cfgWidth

/-- `FindB2(b1)` (R383 on a real row, R385 on the imaginary one). -/
def State.findB2 (s : State) (b1 : Int) : Nat :=
  match s.ref with
  | .row r =>
    ((List.range s.cfgWidth).find? (fun (i : Nat) => decide (b1 < (i : Int)) && s.changing r i)).getD s.cfgWidth
  | .imaginary => s.cfgWidth
  | .none => s.cfgWidth

end Sys2Proof.Machine
end

