-- ==== Sys2Proof/Machine/Ops.lean ====
section
/-! DEFINITION. The named operations over the registers and the output space: the bit reader's moves, the fill, the abort of a
command, its completion, and the entry into each position of the code stream. -/

namespace Sys2Proof.Machine

/-- Go on with `f` where `o` answers a next state; a stop stays a stop. -/
def andThen (o : Result) (f : State → Result) : Result :=
  match o with
  | .next s => f s
  | .fault r => .fault r
  | .refused r => .refused r

/-! ### The bit reader -/

/-- `Advance(n)` (spec/20_memory.md R64). -/
def State.advance (s : State) (n : Nat) : State :=
  { s with bitpos := s.bitpos + n }

/-- `AlignByte()`: `BITPOS <- 8 * ceil(BITPOS / 8)` (spec/20_memory.md R66). -/
def State.alignByte (s : State) : State :=
  { s with bitpos := 8 * ((s.bitpos + 7) / 8) }

/-! ### The output space -/

/-- `Fill(row, from, to, v)` with `v = Byte(c)` (spec/20_memory.md R71): nothing when `from >= to`. A byte outside the output space
is a stop of the model (log entry 11). -/
def fill (row lo hi : Nat) (c : Colour) (s : State) : Result :=
  if hi ≤ lo then .next s
  else if row * s.cfgWidth + hi ≤ s.outCap then
    .next { s with output := s.output.fill (row * s.cfgWidth + lo) (s.byteOf c) (hi - lo) }
  else .fault .writeOutsideOutput

/-- Fill every row from `row` to `ROWS - 1` with the background, white (spec/47_line_orchestrators.md R472). Rows lie one after
another without a gap (spec/20_memory.md R72), so they are filled as one block. -/
def fillRowsFrom (row : Nat) (s : State) : Result :=
  fill 0 (row * s.cfgWidth) (s.rows * s.cfgWidth) .white s

/-! ### Faults, completion, start -/

/-- The abort of a command, the block's one exception entry (spec/60_exceptions.md R492, R497): `FAULT_CODE <- code`,
`STATUS <- FAULT`. Configuration, input and output bytes at and above `ROWS*WIDTH` stay; the datapath, `BITPOS_OUT` and the output
bytes `0..ROWS*WIDTH-1` that exist become free values (spec/20_memory.md R75, spec/10_state.md R29; log entries 4 and 14). There is no
return: the host starts a new command (R497), which is `startCommand`. -/
def State.abort (s : State) (code : FaultCode) : State :=
  { s with
    faultCode := code
    status := .fault
    bitposOut := Config.freeNat s.freeCount .bitposOut
    bitpos := Config.freeNat s.freeCount .bitpos
    row := Config.freeNat s.freeCount .row
    a0 := Config.freeInt s.freeCount .a0
    color := Config.freeColour s.freeCount
    unpacked := Config.freeNat s.freeCount .unpacked
    ref := Config.freeRef s.freeCount
    eolSeen := Config.freeBit s.freeCount
    runAcc := Config.freeNat s.freeCount .runAcc
    hRun1 := Config.freeNat s.freeCount .hRun1
    b1 := Config.freeInt s.freeCount .b1
    b2 := Config.freeInt s.freeCount .b2
    a1 := Config.freeInt s.freeCount .a1
    pos := Config.freePos s.freeCount
    output := s.output.unspecified s.freeCount (min (s.rows * s.cfgWidth) s.outCap)
    freeCount := s.freeCount + 1 }

/-- `Finish()` (spec/47_line_orchestrators.md R474). -/
def State.finish (s : State) : State :=
  { s with bitposOut := s.bitpos, status := .done, faultCode := .none }

/-- What a write of `CMD_START` does at once (spec/10_state.md R26, R28): `STATUS <- BUSY`, `FAULT_CODE <- NONE`; the start sequence is the
next step (log entry 7). -/
def State.startWritten (s : State) : State :=
  { s with status := .busy, faultCode := .none, cmdStart := true }

/-- `REF` at the start of a command (spec/10_state.md R43, R36). -/
def startRef : Command → RefSel
  | .g31d => .none
  | .g32d => .none
  | .g4 => .imaginary
  | .reserved => .none

/-- The state in which a command begins (spec/10_state.md R43), at the head of its row loop. -/
def State.initDatapath (s : State) : State :=
  { s with
    bitpos := 0
    row := 0
    ref := startRef s.command
    a0 := -1
    color := .white
    unpacked := 0
    eolSeen := false
    runAcc := 0
    hRun1 := 0
    faultCode := .none
    status := .busy
    cmdStart := false
    pos := .rowStart }

/-- `CheckConfig()` (spec/47_line_orchestrators.md R460), in its order: the first check that fails aborts the command. -/
def State.checkConfig (s : State) : State :=
  if s.cfgMode = 3#2 then s.abort .unsupportedMode
  else if s.cfgPhotometric ≠ 0 ∧ s.cfgPhotometric ≠ 1 then s.abort .unsupportedPhotometric
  else if s.cfgBps ≠ 1 then s.abort .unsupportedBitsPerSample
  else if s.outCap < s.cfgWidth * s.rows then s.abort .outputTooSmall
  else s

/-- The start sequence of a command whose `CMD_START` has been written (spec/10_state.md R26): the datapath is initialised (R43) and the
configuration checked (R460). `c` is the command whose word it is, which `CFG_MODE` selects (R22). -/
def startCommand (c : Command) (s : State) : Result :=
  if s.codeSpace = .command then
    if s.command = c then .next s.initDatapath.checkConfig else .refused .notTheSelectedCommand
  else .refused .outsideCodeSpace

/-! ### Positions -/

/-- Begin a `DecodeRun` at a run position: `RUN_ACC <- 0` (spec/41_run_length_codes.md R121). -/
def State.enterRun (s : State) (pos : Pos) : State :=
  { s with runAcc := 0, pos := pos }

/-- The end of a row's steps: `ROW` is incremented and the row loop goes on at its head. -/
def State.nextRow (s : State) : State :=
  { s with row := s.row + 1, pos := .rowStart }

/-- The orchestrator's step after a row: `REF <- ROWREF(ROW)` before `ROW` is incremented (spec/10_state.md R36,
spec/47_line_orchestrators.md R473; log entry 10). -/
def State.refRow (s : State) : State :=
  { s with ref := .row s.row }

/-- A row ended with `LINE_OK`: it becomes the reference (R36, R473), and Group 3 1-D aligns unless the row's leading EOL was consumed
(spec/47_line_orchestrators.md R466). -/
def State.endRow (s : State) : State :=
  match s.command with
  | .g31d => if s.eolSeen then s.refRow.nextRow else s.alignByte.refRow.nextRow
  | .g32d => s.refRow.nextRow
  | .g4 => s.refRow.nextRow
  | .reserved => s.refRow.nextRow

/-- The loop condition of `Line1D` (spec/45_one_dimensional.md R401, R403): a further run, or the end of the row. -/
def State.loop1D (s : State) : State :=
  if s.unpacked < s.cfgWidth then s.enterRun .run else s.endRow

/-- The loop condition of `Line2D` (spec/46_two_dimensional.md R420): a further mode, or the end of the row. -/
def State.loop2D (s : State) : State :=
  if s.unpacked < s.cfgWidth then { s with pos := .mode } else s.endRow

/-- The start of `Line1D` (spec/45_one_dimensional.md R401). -/
def State.beginLine1D (s : State) : State :=
  { s with unpacked := 0, color := .white }.loop1D

/-- The start of `Line2D` (spec/46_two_dimensional.md R420). -/
def State.beginLine2D (s : State) : State :=
  { s with a0 := -1, unpacked := 0, color := .white }.loop2D

end Sys2Proof.Machine
end

