-- ==== Sys2Proof/Machine/Rows.lean ====
section
/-! DEFINITION. The row steps: what the engine does where it reads no word, because none is there (a lookup miss, no leading EOL) or
because the row loop has none at that point; and the words of a row's start, `LEOL` and `TAG`. -/

namespace Sys2Proof.Machine

/-! ### A run that does not end with a terminating code -/

/-- `PadFinalRow1D()` and `Finish()` (spec/47_line_orchestrators.md R468): the rest of the row in the colour of the run being
decoded. -/
def padFinalRow1D (s : State) : Result :=
  andThen (fill s.row s.unpacked s.cfgWidth s.color s) (fun t => .next t.finish)

/-- The engine is in the last row of a `DECODE_G3_1D` command, in a run of `Line1D`: the one place where an EOL or a miss is tolerated
(R468, spec/90_conflicts.md C2). -/
def State.toleratesRunStop (s : State) : Bool :=
  decide (s.command = .g31d) && decide (s.pos = .run) && decide (s.row + 1 = s.rows)

/-- `DecodeRun` ended with `EOL_HIT` or `MISS`, nothing consumed (spec/41_run_length_codes.md R121): the tolerated pad (R468), or the
fault (R467, R470, spec/46_two_dimensional.md R423). -/
def runStop (code : FaultCode) (s : State) : Result :=
  if s.toleratesRunStop then padFinalRow1D s else .next (s.abort code)

/-! ### The head of the row loop -/

/-- A Group 3 row without a leading EOL: in 1-D the row begins (spec/47_line_orchestrators.md R465), in 2-D it is the fault
`MISSING_EOL` (R469). The other commands read no leading EOL. -/
def rowWithoutEol (s : State) : Result :=
  match s.command with
  | .g31d => .next { s with eolSeen := false }.beginLine1D
  | .g32d => .next (s.abort .missingEol)
  | .g4 => .next s.beginLine2D
  | .reserved => .next (s.abort .unsupportedMode)

/-- The head of the row loop where no word is read: after the last row the command ends (R474, R475); a Group 4 row begins with its
modes (R463). -/
def rowLoop (s : State) : Result :=
  if s.row < s.rows then rowWithoutEol s else .next s.finish

/-- The engine's answer where the bits at the cursor are no word of the code space. -/
def noWord (e : DecodeError) (s : State) : Result :=
  match e with
  | .runLookupMiss => runStop .rlLookupMiss s
  | .modeLookupMiss => .next (s.abort .modeLookupMiss)
  | .noLeadingEol => rowWithoutEol s
  | .noCodeSpace => rowLoop s

/-! ### The words of a row's start -/

/-- What follows a leading EOL: in Group 3 1-D `EOL_SEEN <- 1` and the row's runs (R465), in Group 3 2-D the tag (R470). -/
def State.afterLeadingEol (s : State) : State :=
  match s.command with
  | .g31d => { s with eolSeen := true }.beginLine1D
  | .g32d => { s with pos := .tag }
  | .g4 => { s with pos := .tag }
  | .reserved => { s with pos := .tag }

/-- `LEOL` (spec/47_line_orchestrators.md R464, R465, R469): `Advance(z + 1)`. -/
def execLeol (zeros : Nat) (s : State) : Result :=
  if s.codeSpace = .rowStart then .next (s.advance (zeros + 1)).afterLeadingEol
  else .refused .outsideCodeSpace

/-- `TAG1` (R470): the row is 1-D coded. -/
def execTag1 (s : State) : Result :=
  if s.codeSpace = .tag then .next (s.advance 1).beginLine1D
  else .refused .outsideCodeSpace

/-- `TAG0` (R470): the row is 2-D coded; without a reference row it is the fault `MISSING_REFERENCE` (R471). -/
def execTag0 (s : State) : Result :=
  if s.codeSpace = .tag then
    if s.ref = .none then .next (s.abort .missingReference) else .next (s.advance 1).beginLine2D
  else .refused .outsideCodeSpace

end Sys2Proof.Machine
end

