-- ==== Sys2Proof/Machine/Runs.lean ====
section
/-! DEFINITION. The shared operation of the run-length words: one step of `DecodeRun` (spec/41_run_length_codes.md R121) and what the
caller does with a finished run. -/

namespace Sys2Proof.Machine

/-- `Advance(n); RUN_ACC <- RUN_ACC + run` (R121). -/
def State.addRun (s : State) (n run : Nat) : State :=
  { s.advance n with runAcc := s.runAcc + run }

/-- `Line1D` with a finished run `n = RUN_ACC` (spec/45_one_dimensional.md R401, R402): the overshoot check, the fill, the colour
flip, the loop condition. -/
def endRun1D (s : State) : Result :=
  if s.cfgWidth < s.unpacked + s.runAcc then .next (s.abort .overshoot)
  else
    andThen (fill s.row s.unpacked (s.unpacked + s.runAcc) s.color s) (fun t =>
      .next { t with unpacked := t.unpacked + t.runAcc, color := t.color.opp }.loop1D)

/-- The first run of a Horizontal mode is finished: `H_RUN1` holds it while the second is decoded from the other colour's table
(spec/46_two_dimensional.md R423). -/
def State.endHRun1 (s : State) : State :=
  { s with hRun1 := s.runAcc }.enterRun .hRun2

/-- The second run of a Horizontal mode is finished, `r2 = RUN_ACC` (R423). -/
def endHRun2 (s : State) : Result :=
  if s.cfgWidth < s.unpacked + s.hRun1 + s.runAcc then .next (s.abort .overshoot)
  else
    andThen (fill s.row s.unpacked (s.unpacked + s.hRun1) s.color s) (fun t =>
      andThen (fill t.row (t.unpacked + t.hRun1) (t.unpacked + t.hRun1 + t.runAcc) t.color.opp t) (fun u =>
        .next { u with
          unpacked := u.unpacked + u.hRun1 + u.runAcc
          a0 := ((u.unpacked + u.hRun1 + u.runAcc : Nat) : Int) }.loop2D))

/-- A terminating code was read: `RUN(RUN_ACC)` goes to the caller of `DecodeRun`. -/
def endRun (s : State) : Result :=
  match s.pos with
  | .hRun1 => .next s.endHRun1
  | .hRun2 => endHRun2 s
  | .run => endRun1D s
  | .rowStart => endRun1D s
  | .tag => endRun1D s
  | .mode => endRun1D s

/-- A run-length word of colour `c` with code length `n`, run `run` and kind `k`: the step that `DecodeRun` performs on a match
(R121). Another code space never reads it (spec/30_encoding.md R92). -/
def runWord (c : Colour) (n run : Nat) (k : RunKind) (s : State) : Result :=
  if s.codeSpace = runSpace c then
    match k with
    | .makeup => .next (s.addRun n run)
    | .terminating => endRun (s.addRun n run)
    | .endOfLine => runStop .unexpectedEol s
  else .refused .outsideCodeSpace

end Sys2Proof.Machine
end

