-- ==== Sys2Proof/Machine/BlackCodes.lean ====
section
/-! DEFINITION. The meanings of the black run-length words: each is one step of `DecodeRun` (spec/41_run_length_codes.md R121) with the code length, the
run and the kind that the word's own rule gives. -/

namespace Sys2Proof.Machine

/-- `B0` (R227). -/
def execB0 (s : State) : Result := runWord .black 10 0 .terminating s

/-- `B1` (R228). -/
def execB1 (s : State) : Result := runWord .black 3 1 .terminating s

/-- `B2` (R229). -/
def execB2 (s : State) : Result := runWord .black 2 2 .terminating s

/-- `B3` (R230). -/
def execB3 (s : State) : Result := runWord .black 2 3 .terminating s

/-- `B4` (R231). -/
def execB4 (s : State) : Result := runWord .black 3 4 .terminating s

/-- `B5` (R232). -/
def execB5 (s : State) : Result := runWord .black 4 5 .terminating s

/-- `B6` (R233). -/
def execB6 (s : State) : Result := runWord .black 4 6 .terminating s

/-- `B7` (R234). -/
def execB7 (s : State) : Result := runWord .black 5 7 .terminating s

/-- `B8` (R235). -/
def execB8 (s : State) : Result := runWord .black 6 8 .terminating s

/-- `B9` (R236). -/
def execB9 (s : State) : Result := runWord .black 6 9 .terminating s

/-- `B10` (R237). -/
def execB10 (s : State) : Result := runWord .black 7 10 .terminating s

/-- `B11` (R238). -/
def execB11 (s : State) : Result := runWord .black 7 11 .terminating s

/-- `B12` (R239). -/
def execB12 (s : State) : Result := runWord .black 7 12 .terminating s

/-- `B13` (R240). -/
def execB13 (s : State) : Result := runWord .black 8 13 .terminating s

/-- `B14` (R241). -/
def execB14 (s : State) : Result := runWord .black 8 14 .terminating s

/-- `B15` (R242). -/
def execB15 (s : State) : Result := runWord .black 9 15 .terminating s

/-- `B16` (R243). -/
def execB16 (s : State) : Result := runWord .black 10 16 .terminating s

/-- `B17` (R244). -/
def execB17 (s : State) : Result := runWord .black 10 17 .terminating s

/-- `B18` (R245). -/
def execB18 (s : State) : Result := runWord .black 10 18 .terminating s

/-- `B19` (R246). -/
def execB19 (s : State) : Result := runWord .black 11 19 .terminating s

/-- `B20` (R247). -/
def execB20 (s : State) : Result := runWord .black 11 20 .terminating s

/-- `B21` (R248). -/
def execB21 (s : State) : Result := runWord .black 11 21 .terminating s

/-- `B22` (R249). -/
def execB22 (s : State) : Result := runWord .black 11 22 .terminating s

/-- `B23` (R250). -/
def execB23 (s : State) : Result := runWord .black 11 23 .terminating s

/-- `B24` (R251). -/
def execB24 (s : State) : Result := runWord .black 11 24 .terminating s

/-- `B25` (R252). -/
def execB25 (s : State) : Result := runWord .black 11 25 .terminating s

/-- `B26` (R253). -/
def execB26 (s : State) : Result := runWord .black 12 26 .terminating s

/-- `B27` (R254). -/
def execB27 (s : State) : Result := runWord .black 12 27 .terminating s

/-- `B28` (R255). -/
def execB28 (s : State) : Result := runWord .black 12 28 .terminating s

/-- `B29` (R256). -/
def execB29 (s : State) : Result := runWord .black 12 29 .terminating s

/-- `B30` (R257). -/
def execB30 (s : State) : Result := runWord .black 12 30 .terminating s

/-- `B31` (R258). -/
def execB31 (s : State) : Result := runWord .black 12 31 .terminating s

/-- `B32` (R259). -/
def execB32 (s : State) : Result := runWord .black 12 32 .terminating s

/-- `B33` (R260). -/
def execB33 (s : State) : Result := runWord .black 12 33 .terminating s

/-- `B34` (R261). -/
def execB34 (s : State) : Result := runWord .black 12 34 .terminating s

/-- `B35` (R262). -/
def execB35 (s : State) : Result := runWord .black 12 35 .terminating s

/-- `B36` (R263). -/
def execB36 (s : State) : Result := runWord .black 12 36 .terminating s

/-- `B37` (R264). -/
def execB37 (s : State) : Result := runWord .black 12 37 .terminating s

/-- `B38` (R265). -/
def execB38 (s : State) : Result := runWord .black 12 38 .terminating s

/-- `B39` (R266). -/
def execB39 (s : State) : Result := runWord .black 12 39 .terminating s

/-- `B40` (R267). -/
def execB40 (s : State) : Result := runWord .black 12 40 .terminating s

/-- `B41` (R268). -/
def execB41 (s : State) : Result := runWord .black 12 41 .terminating s

/-- `B42` (R269). -/
def execB42 (s : State) : Result := runWord .black 12 42 .terminating s

/-- `B43` (R270). -/
def execB43 (s : State) : Result := runWord .black 12 43 .terminating s

/-- `B44` (R271). -/
def execB44 (s : State) : Result := runWord .black 12 44 .terminating s

/-- `B45` (R272). -/
def execB45 (s : State) : Result := runWord .black 12 45 .terminating s

/-- `B46` (R273). -/
def execB46 (s : State) : Result := runWord .black 12 46 .terminating s

/-- `B47` (R274). -/
def execB47 (s : State) : Result := runWord .black 12 47 .terminating s

/-- `B48` (R275). -/
def execB48 (s : State) : Result := runWord .black 12 48 .terminating s

/-- `B49` (R276). -/
def execB49 (s : State) : Result := runWord .black 12 49 .terminating s

/-- `B50` (R277). -/
def execB50 (s : State) : Result := runWord .black 12 50 .terminating s

/-- `B51` (R278). -/
def execB51 (s : State) : Result := runWord .black 12 51 .terminating s

/-- `B52` (R279). -/
def execB52 (s : State) : Result := runWord .black 12 52 .terminating s

/-- `B53` (R280). -/
def execB53 (s : State) : Result := runWord .black 12 53 .terminating s

/-- `B54` (R281). -/
def execB54 (s : State) : Result := runWord .black 12 54 .terminating s

/-- `B55` (R282). -/
def execB55 (s : State) : Result := runWord .black 12 55 .terminating s

/-- `B56` (R283). -/
def execB56 (s : State) : Result := runWord .black 12 56 .terminating s

/-- `B57` (R284). -/
def execB57 (s : State) : Result := runWord .black 12 57 .terminating s

/-- `B58` (R285). -/
def execB58 (s : State) : Result := runWord .black 12 58 .terminating s

/-- `B59` (R286). -/
def execB59 (s : State) : Result := runWord .black 12 59 .terminating s

/-- `B60` (R287). -/
def execB60 (s : State) : Result := runWord .black 12 60 .terminating s

/-- `B61` (R288). -/
def execB61 (s : State) : Result := runWord .black 12 61 .terminating s

/-- `B62` (R289). -/
def execB62 (s : State) : Result := runWord .black 12 62 .terminating s

/-- `B63` (R290). -/
def execB63 (s : State) : Result := runWord .black 12 63 .terminating s

/-- `BM64` (R291). -/
def execBm64 (s : State) : Result := runWord .black 10 64 .makeup s

/-- `BM128` (R292). -/
def execBm128 (s : State) : Result := runWord .black 12 128 .makeup s

/-- `BM192` (R293). -/
def execBm192 (s : State) : Result := runWord .black 12 192 .makeup s

/-- `BM256` (R294). -/
def execBm256 (s : State) : Result := runWord .black 12 256 .makeup s

/-- `BM320` (R295). -/
def execBm320 (s : State) : Result := runWord .black 12 320 .makeup s

/-- `BM384` (R296). -/
def execBm384 (s : State) : Result := runWord .black 12 384 .makeup s

/-- `BM448` (R297). -/
def execBm448 (s : State) : Result := runWord .black 12 448 .makeup s

/-- `BM512` (R298). -/
def execBm512 (s : State) : Result := runWord .black 13 512 .makeup s

/-- `BM576` (R299). -/
def execBm576 (s : State) : Result := runWord .black 13 576 .makeup s

/-- `BM640` (R300). -/
def execBm640 (s : State) : Result := runWord .black 13 640 .makeup s

/-- `BM704` (R301). -/
def execBm704 (s : State) : Result := runWord .black 13 704 .makeup s

/-- `BM768` (R302). -/
def execBm768 (s : State) : Result := runWord .black 13 768 .makeup s

/-- `BM832` (R303). -/
def execBm832 (s : State) : Result := runWord .black 13 832 .makeup s

/-- `BM896` (R304). -/
def execBm896 (s : State) : Result := runWord .black 13 896 .makeup s

/-- `BM960` (R305). -/
def execBm960 (s : State) : Result := runWord .black 13 960 .makeup s

/-- `BM1024` (R306). -/
def execBm1024 (s : State) : Result := runWord .black 13 1024 .makeup s

/-- `BM1088` (R307). -/
def execBm1088 (s : State) : Result := runWord .black 13 1088 .makeup s

/-- `BM1152` (R308). -/
def execBm1152 (s : State) : Result := runWord .black 13 1152 .makeup s

/-- `BM1216` (R309). -/
def execBm1216 (s : State) : Result := runWord .black 13 1216 .makeup s

/-- `BM1280` (R310). -/
def execBm1280 (s : State) : Result := runWord .black 13 1280 .makeup s

/-- `BM1344` (R311). -/
def execBm1344 (s : State) : Result := runWord .black 13 1344 .makeup s

/-- `BM1408` (R312). -/
def execBm1408 (s : State) : Result := runWord .black 13 1408 .makeup s

/-- `BM1472` (R313). -/
def execBm1472 (s : State) : Result := runWord .black 13 1472 .makeup s

/-- `BM1536` (R314). -/
def execBm1536 (s : State) : Result := runWord .black 13 1536 .makeup s

/-- `BM1600` (R315). -/
def execBm1600 (s : State) : Result := runWord .black 13 1600 .makeup s

/-- `BM1664` (R316). -/
def execBm1664 (s : State) : Result := runWord .black 13 1664 .makeup s

/-- `BM1728` (R317). -/
def execBm1728 (s : State) : Result := runWord .black 13 1728 .makeup s

/-- `BM1792` (R318). -/
def execBm1792 (s : State) : Result := runWord .black 11 1792 .makeup s

/-- `BM1856` (R319). -/
def execBm1856 (s : State) : Result := runWord .black 11 1856 .makeup s

/-- `BM1920` (R320). -/
def execBm1920 (s : State) : Result := runWord .black 11 1920 .makeup s

/-- `BM1984` (R321). -/
def execBm1984 (s : State) : Result := runWord .black 12 1984 .makeup s

/-- `BM2048` (R322). -/
def execBm2048 (s : State) : Result := runWord .black 12 2048 .makeup s

/-- `BM2112` (R323). -/
def execBm2112 (s : State) : Result := runWord .black 12 2112 .makeup s

/-- `BM2176` (R324). -/
def execBm2176 (s : State) : Result := runWord .black 12 2176 .makeup s

/-- `BM2240` (R325). -/
def execBm2240 (s : State) : Result := runWord .black 12 2240 .makeup s

/-- `BM2304` (R326). -/
def execBm2304 (s : State) : Result := runWord .black 12 2304 .makeup s

/-- `BM2368` (R327). -/
def execBm2368 (s : State) : Result := runWord .black 12 2368 .makeup s

/-- `BM2432` (R328). -/
def execBm2432 (s : State) : Result := runWord .black 12 2432 .makeup s

/-- `BM2496` (R329). -/
def execBm2496 (s : State) : Result := runWord .black 12 2496 .makeup s

/-- `BM2560` (R330). -/
def execBm2560 (s : State) : Result := runWord .black 12 2560 .makeup s

/-- `B_EOL` (R331). -/
def execBEol (s : State) : Result := runWord .black 12 0 .endOfLine s

end Sys2Proof.Machine
end

