-- ==== Sys2Proof/Machine/Commands.lean ====
section
/-! DEFINITION. The commands: the start sequence after a write of `CMD_START` for each value of `CFG_MODE`
(spec/47_line_orchestrators.md R460 to R463, spec/60_exceptions.md R493). Their row loops are the steps that follow
(Sys2Proof/Machine/Rows.lean). -/

namespace Sys2Proof.Machine

/-- `DECODE_G3_1D` (R461). -/
def execDecodeG31d (s : State) : Result := startCommand .g31d s

/-- `DECODE_G3_2D` (R462). -/
def execDecodeG32d (s : State) : Result := startCommand .g32d s

/-- `DECODE_G4` (R463). -/
def execDecodeG4 (s : State) : Result := startCommand .g4 s

/-- `CMD_RESERVED` (R493): the start sequence, whose first check aborts. -/
def execCmdReserved (s : State) : Result := startCommand .reserved s

end Sys2Proof.Machine
end

