-- ==== Sys2Proof/Machine/ModeCodes.lean ====
section
/-! DEFINITION. The words of a mode position (spec/43_mode_codes.md, spec/46_two_dimensional.md): the modes, the extension escapes
and the EOL. -/

namespace Sys2Proof.Machine

/-- A mode word of `n` bits: `Advance(n)`, then `B1 <- FindB1(A0, COLOR)`, then the mode (R350, R420). -/
def modeWord (n : Nat) (mode : State → Result) (s : State) : Result :=
  if s.codeSpace = .mode then
    match s.refProblem with
    | some f => .fault f
    | none => mode { s.advance n with b1 := ((s.findB1 s.a0 s.color : Nat) : Int) }
  else .refused .outsideCodeSpace

/-- `Vertical(d)` (R424): the checks in the order of spec/60_exceptions.md R494, the fill, the colour flip. -/
def vertical (d : Int) (s : State) : Result :=
  if (s.cfgWidth : Int) < s.b1 + d then .next (s.abort .overshoot)
  else if s.b1 + d < (s.unpacked : Int) then .next (s.abort .negativeRun)
  else
    andThen (fill s.row s.unpacked (s.b1 + d).toNat s.color { s with a1 := s.b1 + d }) (fun t =>
      .next { t with unpacked := t.a1.toNat, a0 := t.a1, color := t.color.opp }.loop2D)

/-- Pass (R422): the colour does not flip. -/
def pass (s : State) : Result :=
  andThen (fill s.row s.unpacked (s.findB2 s.b1) s.color { s with b2 := ((s.findB2 s.b1 : Nat) : Int) }) (fun t =>
    .next { t with unpacked := t.b2.toNat, a0 := t.b2 }.loop2D)

/-- Horizontal (R423): two runs follow, the first in `COLOR`. -/
def horizontal (s : State) : Result :=
  .next (s.enterRun .hRun1)

/-- An extension escape at a mode position always aborts the command (R360, R361). -/
def extension (s : State) : Result :=
  if s.codeSpace = .mode then .next (s.abort .unsupportedExtension)
  else .refused .outsideCodeSpace

/-- `PadEOFB()` and `Finish()` (spec/47_line_orchestrators.md R472): white from the cursor to the end of the image. -/
def padEofb (s : State) : Result :=
  andThen (fill s.row s.unpacked s.cfgWidth .white s) (fun t =>
    andThen (fillRowsFrom (t.row + 1) t) (fun u => .next u.finish))

/-- `P` (R353, R422). -/
def execP (s : State) : Result := modeWord 4 pass s

/-- `H` (R352, R423). -/
def execH (s : State) : Result := modeWord 3 horizontal s

/-- `V0` (R351, R424). -/
def execV0 (s : State) : Result := modeWord 1 (vertical 0) s

/-- `VR1` (R354, R425). -/
def execVr1 (s : State) : Result := modeWord 3 (vertical 1) s

/-- `VR2` (R356, R426). -/
def execVr2 (s : State) : Result := modeWord 6 (vertical 2) s

/-- `VR3` (R358, R427). -/
def execVr3 (s : State) : Result := modeWord 7 (vertical 3) s

/-- `VL1` (R355, R428). -/
def execVl1 (s : State) : Result := modeWord 3 (vertical (-1)) s

/-- `VL2` (R357, R429). -/
def execVl2 (s : State) : Result := modeWord 6 (vertical (-2)) s

/-- `VL3` (R359, R430). -/
def execVl3 (s : State) : Result := modeWord 7 (vertical (-3)) s

/-- `X2D` (R360); the extension bits are not used (R94). -/
def execX2d (_ext : BitVec 5) (s : State) : Result := extension s

/-- `X1D` (R361); the extension bits are not used (R94). -/
def execX1d (_ext : BitVec 5) (s : State) : Result := extension s

/-- `EOL_AT_MODE` (R421), nothing consumed: the EOFB in `DECODE_G4` (R472), `UNEXPECTED_EOL` in `DECODE_G3_2D` (R470). The other
commands never reach a mode position. -/
def execEolAtMode (s : State) : Result :=
  if s.codeSpace = .mode then
    match s.command with
    | .g4 => padEofb s
    | .g32d => .next (s.abort .unexpectedEol)
    | .g31d => .next (s.abort .unexpectedEol)
    | .reserved => .next (s.abort .unexpectedEol)
  else .refused .outsideCodeSpace

end Sys2Proof.Machine
end

