-- ==== Sys2Proof/Machine/WhiteCodes.lean ====
section
/-! DEFINITION. The meanings of the white run-length words: each is one step of `DecodeRun` (spec/41_run_length_codes.md R121) with the code length, the
run and the kind that the word's own rule gives. -/

namespace Sys2Proof.Machine

/-- `W0` (R122). -/
def execW0 (s : State) : Result := runWord .white 8 0 .terminating s

/-- `W1` (R123). -/
def execW1 (s : State) : Result := runWord .white 6 1 .terminating s

/-- `W2` (R124). -/
def execW2 (s : State) : Result := runWord .white 4 2 .terminating s

/-- `W3` (R125). -/
def execW3 (s : State) : Result := runWord .white 4 3 .terminating s

/-- `W4` (R126). -/
def execW4 (s : State) : Result := runWord .white 4 4 .terminating s

/-- `W5` (R127). -/
def execW5 (s : State) : Result := runWord .white 4 5 .terminating s

/-- `W6` (R128). -/
def execW6 (s : State) : Result := runWord .white 4 6 .terminating s

/-- `W7` (R129). -/
def execW7 (s : State) : Result := runWord .white 4 7 .terminating s

/-- `W8` (R130). -/
def execW8 (s : State) : Result := runWord .white 5 8 .terminating s

/-- `W9` (R131). -/
def execW9 (s : State) : Result := runWord .white 5 9 .terminating s

/-- `W10` (R132). -/
def execW10 (s : State) : Result := runWord .white 5 10 .terminating s

/-- `W11` (R133). -/
def execW11 (s : State) : Result := runWord .white 5 11 .terminating s

/-- `W12` (R134). -/
def execW12 (s : State) : Result := runWord .white 6 12 .terminating s

/-- `W13` (R135). -/
def execW13 (s : State) : Result := runWord .white 6 13 .terminating s

/-- `W14` (R136). -/
def execW14 (s : State) : Result := runWord .white 6 14 .terminating s

/-- `W15` (R137). -/
def execW15 (s : State) : Result := runWord .white 6 15 .terminating s

/-- `W16` (R138). -/
def execW16 (s : State) : Result := runWord .white 6 16 .terminating s

/-- `W17` (R139). -/
def execW17 (s : State) : Result := runWord .white 6 17 .terminating s

/-- `W18` (R140). -/
def execW18 (s : State) : Result := runWord .white 7 18 .terminating s

/-- `W19` (R141). -/
def execW19 (s : State) : Result := runWord .white 7 19 .terminating s

/-- `W20` (R142). -/
def execW20 (s : State) : Result := runWord .white 7 20 .terminating s

/-- `W21` (R143). -/
def execW21 (s : State) : Result := runWord .white 7 21 .terminating s

/-- `W22` (R144). -/
def execW22 (s : State) : Result := runWord .white 7 22 .terminating s

/-- `W23` (R145). -/
def execW23 (s : State) : Result := runWord .white 7 23 .terminating s

/-- `W24` (R146). -/
def execW24 (s : State) : Result := runWord .white 7 24 .terminating s

/-- `W25` (R147). -/
def execW25 (s : State) : Result := runWord .white 7 25 .terminating s

/-- `W26` (R148). -/
def execW26 (s : State) : Result := runWord .white 7 26 .terminating s

/-- `W27` (R149). -/
def execW27 (s : State) : Result := runWord .white 7 27 .terminating s

/-- `W28` (R150). -/
def execW28 (s : State) : Result := runWord .white 7 28 .terminating s

/-- `W29` (R151). -/
def execW29 (s : State) : Result := runWord .white 8 29 .terminating s

/-- `W30` (R152). -/
def execW30 (s : State) : Result := runWord .white 8 30 .terminating s

/-- `W31` (R153). -/
def execW31 (s : State) : Result := runWord .white 8 31 .terminating s

/-- `W32` (R154). -/
def execW32 (s : State) : Result := runWord .white 8 32 .terminating s

/-- `W33` (R155). -/
def execW33 (s : State) : Result := runWord .white 8 33 .terminating s

/-- `W34` (R156). -/
def execW34 (s : State) : Result := runWord .white 8 34 .terminating s

/-- `W35` (R157). -/
def execW35 (s : State) : Result := runWord .white 8 35 .terminating s

/-- `W36` (R158). -/
def execW36 (s : State) : Result := runWord .white 8 36 .terminating s

/-- `W37` (R159). -/
def execW37 (s : State) : Result := runWord .white 8 37 .terminating s

/-- `W38` (R160). -/
def execW38 (s : State) : Result := runWord .white 8 38 .terminating s

/-- `W39` (R161). -/
def execW39 (s : State) : Result := runWord .white 8 39 .terminating s

/-- `W40` (R162). -/
def execW40 (s : State) : Result := runWord .white 8 40 .terminating s

/-- `W41` (R163). -/
def execW41 (s : State) : Result := runWord .white 8 41 .terminating s

/-- `W42` (R164). -/
def execW42 (s : State) : Result := runWord .white 8 42 .terminating s

/-- `W43` (R165). -/
def execW43 (s : State) : Result := runWord .white 8 43 .terminating s

/-- `W44` (R166). -/
def execW44 (s : State) : Result := runWord .white 8 44 .terminating s

/-- `W45` (R167). -/
def execW45 (s : State) : Result := runWord .white 8 45 .terminating s

/-- `W46` (R168). -/
def execW46 (s : State) : Result := runWord .white 8 46 .terminating s

/-- `W47` (R169). -/
def execW47 (s : State) : Result := runWord .white 8 47 .terminating s

/-- `W48` (R170). -/
def execW48 (s : State) : Result := runWord .white 8 48 .terminating s

/-- `W49` (R171). -/
def execW49 (s : State) : Result := runWord .white 8 49 .terminating s

/-- `W50` (R172). -/
def execW50 (s : State) : Result := runWord .white 8 50 .terminating s

/-- `W51` (R173). -/
def execW51 (s : State) : Result := runWord .white 8 51 .terminating s

/-- `W52` (R174). -/
def execW52 (s : State) : Result := runWord .white 8 52 .terminating s

/-- `W53` (R175). -/
def execW53 (s : State) : Result := runWord .white 8 53 .terminating s

/-- `W54` (R176). -/
def execW54 (s : State) : Result := runWord .white 8 54 .terminating s

/-- `W55` (R177). -/
def execW55 (s : State) : Result := runWord .white 8 55 .terminating s

/-- `W56` (R178). -/
def execW56 (s : State) : Result := runWord .white 8 56 .terminating s

/-- `W57` (R179). -/
def execW57 (s : State) : Result := runWord .white 8 57 .terminating s

/-- `W58` (R180). -/
def execW58 (s : State) : Result := runWord .white 8 58 .terminating s

/-- `W59` (R181). -/
def execW59 (s : State) : Result := runWord .white 8 59 .terminating s

/-- `W60` (R182). -/
def execW60 (s : State) : Result := runWord .white 8 60 .terminating s

/-- `W61` (R183). -/
def execW61 (s : State) : Result := runWord .white 8 61 .terminating s

/-- `W62` (R184). -/
def execW62 (s : State) : Result := runWord .white 8 62 .terminating s

/-- `W63` (R185). -/
def execW63 (s : State) : Result := runWord .white 8 63 .terminating s

/-- `WM64` (R186). -/
def execWm64 (s : State) : Result := runWord .white 5 64 .makeup s

/-- `WM128` (R187). -/
def execWm128 (s : State) : Result := runWord .white 5 128 .makeup s

/-- `WM192` (R188). -/
def execWm192 (s : State) : Result := runWord .white 6 192 .makeup s

/-- `WM256` (R189). -/
def execWm256 (s : State) : Result := runWord .white 7 256 .makeup s

/-- `WM320` (R190). -/
def execWm320 (s : State) : Result := runWord .white 8 320 .makeup s

/-- `WM384` (R191). -/
def execWm384 (s : State) : Result := runWord .white 8 384 .makeup s

/-- `WM448` (R192). -/
def execWm448 (s : State) : Result := runWord .white 8 448 .makeup s

/-- `WM512` (R193). -/
def execWm512 (s : State) : Result := runWord .white 8 512 .makeup s

/-- `WM576` (R194). -/
def execWm576 (s : State) : Result := runWord .white 8 576 .makeup s

/-- `WM640` (R195). -/
def execWm640 (s : State) : Result := runWord .white 8 640 .makeup s

/-- `WM704` (R196). -/
def execWm704 (s : State) : Result := runWord .white 9 704 .makeup s

/-- `WM768` (R197). -/
def execWm768 (s : State) : Result := runWord .white 9 768 .makeup s

/-- `WM832` (R198). -/
def execWm832 (s : State) : Result := runWord .white 9 832 .makeup s

/-- `WM896` (R199). -/
def execWm896 (s : State) : Result := runWord .white 9 896 .makeup s

/-- `WM960` (R200). -/
def execWm960 (s : State) : Result := runWord .white 9 960 .makeup s

/-- `WM1024` (R201). -/
def execWm1024 (s : State) : Result := runWord .white 9 1024 .makeup s

/-- `WM1088` (R202). -/
def execWm1088 (s : State) : Result := runWord .white 9 1088 .makeup s

/-- `WM1152` (R203). -/
def execWm1152 (s : State) : Result := runWord .white 9 1152 .makeup s

/-- `WM1216` (R204). -/
def execWm1216 (s : State) : Result := runWord .white 9 1216 .makeup s

/-- `WM1280` (R205). -/
def execWm1280 (s : State) : Result := runWord .white 9 1280 .makeup s

/-- `WM1344` (R206). -/
def execWm1344 (s : State) : Result := runWord .white 9 1344 .makeup s

/-- `WM1408` (R207). -/
def execWm1408 (s : State) : Result := runWord .white 9 1408 .makeup s

/-- `WM1472` (R208). -/
def execWm1472 (s : State) : Result := runWord .white 9 1472 .makeup s

/-- `WM1536` (R209). -/
def execWm1536 (s : State) : Result := runWord .white 9 1536 .makeup s

/-- `WM1600` (R210). -/
def execWm1600 (s : State) : Result := runWord .white 9 1600 .makeup s

/-- `WM1664` (R211). -/
def execWm1664 (s : State) : Result := runWord .white 6 1664 .makeup s

/-- `WM1728` (R212). -/
def execWm1728 (s : State) : Result := runWord .white 9 1728 .makeup s

/-- `WM1792` (R213). -/
def execWm1792 (s : State) : Result := runWord .white 11 1792 .makeup s

/-- `WM1856` (R214). -/
def execWm1856 (s : State) : Result := runWord .white 11 1856 .makeup s

/-- `WM1920` (R215). -/
def execWm1920 (s : State) : Result := runWord .white 11 1920 .makeup s

/-- `WM1984` (R216). -/
def execWm1984 (s : State) : Result := runWord .white 12 1984 .makeup s

/-- `WM2048` (R217). -/
def execWm2048 (s : State) : Result := runWord .white 12 2048 .makeup s

/-- `WM2112` (R218). -/
def execWm2112 (s : State) : Result := runWord .white 12 2112 .makeup s

/-- `WM2176` (R219). -/
def execWm2176 (s : State) : Result := runWord .white 12 2176 .makeup s

/-- `WM2240` (R220). -/
def execWm2240 (s : State) : Result := runWord .white 12 2240 .makeup s

/-- `WM2304` (R221). -/
def execWm2304 (s : State) : Result := runWord .white 12 2304 .makeup s

/-- `WM2368` (R222). -/
def execWm2368 (s : State) : Result := runWord .white 12 2368 .makeup s

/-- `WM2432` (R223). -/
def execWm2432 (s : State) : Result := runWord .white 12 2432 .makeup s

/-- `WM2496` (R224). -/
def execWm2496 (s : State) : Result := runWord .white 12 2496 .makeup s

/-- `WM2560` (R225). -/
def execWm2560 (s : State) : Result := runWord .white 12 2560 .makeup s

/-- `W_EOL` (R226). -/
def execWEol (s : State) : Result := runWord .white 12 0 .endOfLine s

end Sys2Proof.Machine
end

