-- ==== Sys2Proof/Machine/Dispatch.lean ====
section
/-! DEFINITION. The dispatch: one arm per row of spec/opcode_table.json. -/

namespace Sys2Proof.Machine

def exec (i : Instr) (s : State) : Host.Outcome State Fault Refusal :=
  match i with
  | .w0 => Sys2Proof.Machine.execW0 s
  | .w1 => Sys2Proof.Machine.execW1 s
  | .w2 => Sys2Proof.Machine.execW2 s
  | .w3 => Sys2Proof.Machine.execW3 s
  | .w4 => Sys2Proof.Machine.execW4 s
  | .w5 => Sys2Proof.Machine.execW5 s
  | .w6 => Sys2Proof.Machine.execW6 s
  | .w7 => Sys2Proof.Machine.execW7 s
  | .w8 => Sys2Proof.Machine.execW8 s
  | .w9 => Sys2Proof.Machine.execW9 s
  | .w10 => Sys2Proof.Machine.execW10 s
  | .w11 => Sys2Proof.Machine.execW11 s
  | .w12 => Sys2Proof.Machine.execW12 s
  | .w13 => Sys2Proof.Machine.execW13 s
  | .w14 => Sys2Proof.Machine.execW14 s
  | .w15 => Sys2Proof.Machine.execW15 s
  | .w16 => Sys2Proof.Machine.execW16 s
  | .w17 => Sys2Proof.Machine.execW17 s
  | .w18 => Sys2Proof.Machine.execW18 s
  | .w19 => Sys2Proof.Machine.execW19 s
  | .w20 => Sys2Proof.Machine.execW20 s
  | .w21 => Sys2Proof.Machine.execW21 s
  | .w22 => Sys2Proof.Machine.execW22 s
  | .w23 => Sys2Proof.Machine.execW23 s
  | .w24 => Sys2Proof.Machine.execW24 s
  | .w25 => Sys2Proof.Machine.execW25 s
  | .w26 => Sys2Proof.Machine.execW26 s
  | .w27 => Sys2Proof.Machine.execW27 s
  | .w28 => Sys2Proof.Machine.execW28 s
  | .w29 => Sys2Proof.Machine.execW29 s
  | .w30 => Sys2Proof.Machine.execW30 s
  | .w31 => Sys2Proof.Machine.execW31 s
  | .w32 => Sys2Proof.Machine.execW32 s
  | .w33 => Sys2Proof.Machine.execW33 s
  | .w34 => Sys2Proof.Machine.execW34 s
  | .w35 => Sys2Proof.Machine.execW35 s
  | .w36 => Sys2Proof.Machine.execW36 s
  | .w37 => Sys2Proof.Machine.execW37 s
  | .w38 => Sys2Proof.Machine.execW38 s
  | .w39 => Sys2Proof.Machine.execW39 s
  | .w40 => Sys2Proof.Machine.execW40 s
  | .w41 => Sys2Proof.Machine.execW41 s
  | .w42 => Sys2Proof.Machine.execW42 s
  | .w43 => Sys2Proof.Machine.execW43 s
  | .w44 => Sys2Proof.Machine.execW44 s
  | .w45 => Sys2Proof.Machine.execW45 s
  | .w46 => Sys2Proof.Machine.execW46 s
  | .w47 => Sys2Proof.Machine.execW47 s
  | .w48 => Sys2Proof.Machine.execW48 s
  | .w49 => Sys2Proof.Machine.execW49 s
  | .w50 => Sys2Proof.Machine.execW50 s
  | .w51 => Sys2Proof.Machine.execW51 s
  | .w52 => Sys2Proof.Machine.execW52 s
  | .w53 => Sys2Proof.Machine.execW53 s
  | .w54 => Sys2Proof.Machine.execW54 s
  | .w55 => Sys2Proof.Machine.execW55 s
  | .w56 => Sys2Proof.Machine.execW56 s
  | .w57 => Sys2Proof.Machine.execW57 s
  | .w58 => Sys2Proof.Machine.execW58 s
  | .w59 => Sys2Proof.Machine.execW59 s
  | .w60 => Sys2Proof.Machine.execW60 s
  | .w61 => Sys2Proof.Machine.execW61 s
  | .w62 => Sys2Proof.Machine.execW62 s
  | .w63 => Sys2Proof.Machine.execW63 s
  | .wm64 => Sys2Proof.Machine.execWm64 s
  | .wm128 => Sys2Proof.Machine.execWm128 s
  | .wm192 => Sys2Proof.Machine.execWm192 s
  | .wm256 => Sys2Proof.Machine.execWm256 s
  | .wm320 => Sys2Proof.Machine.execWm320 s
  | .wm384 => Sys2Proof.Machine.execWm384 s
  | .wm448 => Sys2Proof.Machine.execWm448 s
  | .wm512 => Sys2Proof.Machine.execWm512 s
  | .wm576 => Sys2Proof.Machine.execWm576 s
  | .wm640 => Sys2Proof.Machine.execWm640 s
  | .wm704 => Sys2Proof.Machine.execWm704 s
  | .wm768 => Sys2Proof.Machine.execWm768 s
  | .wm832 => Sys2Proof.Machine.execWm832 s
  | .wm896 => Sys2Proof.Machine.execWm896 s
  | .wm960 => Sys2Proof.Machine.execWm960 s
  | .wm1024 => Sys2Proof.Machine.execWm1024 s
  | .wm1088 => Sys2Proof.Machine.execWm1088 s
  | .wm1152 => Sys2Proof.Machine.execWm1152 s
  | .wm1216 => Sys2Proof.Machine.execWm1216 s
  | .wm1280 => Sys2Proof.Machine.execWm1280 s
  | .wm1344 => Sys2Proof.Machine.execWm1344 s
  | .wm1408 => Sys2Proof.Machine.execWm1408 s
  | .wm1472 => Sys2Proof.Machine.execWm1472 s
  | .wm1536 => Sys2Proof.Machine.execWm1536 s
  | .wm1600 => Sys2Proof.Machine.execWm1600 s
  | .wm1664 => Sys2Proof.Machine.execWm1664 s
  | .wm1728 => Sys2Proof.Machine.execWm1728 s
  | .wm1792 => Sys2Proof.Machine.execWm1792 s
  | .wm1856 => Sys2Proof.Machine.execWm1856 s
  | .wm1920 => Sys2Proof.Machine.execWm1920 s
  | .wm1984 => Sys2Proof.Machine.execWm1984 s
  | .wm2048 => Sys2Proof.Machine.execWm2048 s
  | .wm2112 => Sys2Proof.Machine.execWm2112 s
  | .wm2176 => Sys2Proof.Machine.execWm2176 s
  | .wm2240 => Sys2Proof.Machine.execWm2240 s
  | .wm2304 => Sys2Proof.Machine.execWm2304 s
  | .wm2368 => Sys2Proof.Machine.execWm2368 s
  | .wm2432 => Sys2Proof.Machine.execWm2432 s
  | .wm2496 => Sys2Proof.Machine.execWm2496 s
  | .wm2560 => Sys2Proof.Machine.execWm2560 s
  | .wEol => Sys2Proof.Machine.execWEol s
  | .b0 => Sys2Proof.Machine.execB0 s
  | .b1 => Sys2Proof.Machine.execB1 s
  | .b2 => Sys2Proof.Machine.execB2 s
  | .b3 => Sys2Proof.Machine.execB3 s
  | .b4 => Sys2Proof.Machine.execB4 s
  | .b5 => Sys2Proof.Machine.execB5 s
  | .b6 => Sys2Proof.Machine.execB6 s
  | .b7 => Sys2Proof.Machine.execB7 s
  | .b8 => Sys2Proof.Machine.execB8 s
  | .b9 => Sys2Proof.Machine.execB9 s
  | .b10 => Sys2Proof.Machine.execB10 s
  | .b11 => Sys2Proof.Machine.execB11 s
  | .b12 => Sys2Proof.Machine.execB12 s
  | .b13 => Sys2Proof.Machine.execB13 s
  | .b14 => Sys2Proof.Machine.execB14 s
  | .b15 => Sys2Proof.Machine.execB15 s
  | .b16 => Sys2Proof.Machine.execB16 s
  | .b17 => Sys2Proof.Machine.execB17 s
  | .b18 => Sys2Proof.Machine.execB18 s
  | .b19 => Sys2Proof.Machine.execB19 s
  | .b20 => Sys2Proof.Machine.execB20 s
  | .b21 => Sys2Proof.Machine.execB21 s
  | .b22 => Sys2Proof.Machine.execB22 s
  | .b23 => Sys2Proof.Machine.execB23 s
  | .b24 => Sys2Proof.Machine.execB24 s
  | .b25 => Sys2Proof.Machine.execB25 s
  | .b26 => Sys2Proof.Machine.execB26 s
  | .b27 => Sys2Proof.Machine.execB27 s
  | .b28 => Sys2Proof.Machine.execB28 s
  | .b29 => Sys2Proof.Machine.execB29 s
  | .b30 => Sys2Proof.Machine.execB30 s
  | .b31 => Sys2Proof.Machine.execB31 s
  | .b32 => Sys2Proof.Machine.execB32 s
  | .b33 => Sys2Proof.Machine.execB33 s
  | .b34 => Sys2Proof.Machine.execB34 s
  | .b35 => Sys2Proof.Machine.execB35 s
  | .b36 => Sys2Proof.Machine.execB36 s
  | .b37 => Sys2Proof.Machine.execB37 s
  | .b38 => Sys2Proof.Machine.execB38 s
  | .b39 => Sys2Proof.Machine.execB39 s
  | .b40 => Sys2Proof.Machine.execB40 s
  | .b41 => Sys2Proof.Machine.execB41 s
  | .b42 => Sys2Proof.Machine.execB42 s
  | .b43 => Sys2Proof.Machine.execB43 s
  | .b44 => Sys2Proof.Machine.execB44 s
  | .b45 => Sys2Proof.Machine.execB45 s
  | .b46 => Sys2Proof.Machine.execB46 s
  | .b47 => Sys2Proof.Machine.execB47 s
  | .b48 => Sys2Proof.Machine.execB48 s
  | .b49 => Sys2Proof.Machine.execB49 s
  | .b50 => Sys2Proof.Machine.execB50 s
  | .b51 => Sys2Proof.Machine.execB51 s
  | .b52 => Sys2Proof.Machine.execB52 s
  | .b53 => Sys2Proof.Machine.execB53 s
  | .b54 => Sys2Proof.Machine.execB54 s
  | .b55 => Sys2Proof.Machine.execB55 s
  | .b56 => Sys2Proof.Machine.execB56 s
  | .b57 => Sys2Proof.Machine.execB57 s
  | .b58 => Sys2Proof.Machine.execB58 s
  | .b59 => Sys2Proof.Machine.execB59 s
  | .b60 => Sys2Proof.Machine.execB60 s
  | .b61 => Sys2Proof.Machine.execB61 s
  | .b62 => Sys2Proof.Machine.execB62 s
  | .b63 => Sys2Proof.Machine.execB63 s
  | .bm64 => Sys2Proof.Machine.execBm64 s
  | .bm128 => Sys2Proof.Machine.execBm128 s
  | .bm192 => Sys2Proof.Machine.execBm192 s
  | .bm256 => Sys2Proof.Machine.execBm256 s
  | .bm320 => Sys2Proof.Machine.execBm320 s
  | .bm384 => Sys2Proof.Machine.execBm384 s
  | .bm448 => Sys2Proof.Machine.execBm448 s
  | .bm512 => Sys2Proof.Machine.execBm512 s
  | .bm576 => Sys2Proof.Machine.execBm576 s
  | .bm640 => Sys2Proof.Machine.execBm640 s
  | .bm704 => Sys2Proof.Machine.execBm704 s
  | .bm768 => Sys2Proof.Machine.execBm768 s
  | .bm832 => Sys2Proof.Machine.execBm832 s
  | .bm896 => Sys2Proof.Machine.execBm896 s
  | .bm960 => Sys2Proof.Machine.execBm960 s
  | .bm1024 => Sys2Proof.Machine.execBm1024 s
  | .bm1088 => Sys2Proof.Machine.execBm1088 s
  | .bm1152 => Sys2Proof.Machine.execBm1152 s
  | .bm1216 => Sys2Proof.Machine.execBm1216 s
  | .bm1280 => Sys2Proof.Machine.execBm1280 s
  | .bm1344 => Sys2Proof.Machine.execBm1344 s
  | .bm1408 => Sys2Proof.Machine.execBm1408 s
  | .bm1472 => Sys2Proof.Machine.execBm1472 s
  | .bm1536 => Sys2Proof.Machine.execBm1536 s
  | .bm1600 => Sys2Proof.Machine.execBm1600 s
  | .bm1664 => Sys2Proof.Machine.execBm1664 s
  | .bm1728 => Sys2Proof.Machine.execBm1728 s
  | .bm1792 => Sys2Proof.Machine.execBm1792 s
  | .bm1856 => Sys2Proof.Machine.execBm1856 s
  | .bm1920 => Sys2Proof.Machine.execBm1920 s
  | .bm1984 => Sys2Proof.Machine.execBm1984 s
  | .bm2048 => Sys2Proof.Machine.execBm2048 s
  | .bm2112 => Sys2Proof.Machine.execBm2112 s
  | .bm2176 => Sys2Proof.Machine.execBm2176 s
  | .bm2240 => Sys2Proof.Machine.execBm2240 s
  | .bm2304 => Sys2Proof.Machine.execBm2304 s
  | .bm2368 => Sys2Proof.Machine.execBm2368 s
  | .bm2432 => Sys2Proof.Machine.execBm2432 s
  | .bm2496 => Sys2Proof.Machine.execBm2496 s
  | .bm2560 => Sys2Proof.Machine.execBm2560 s
  | .bEol => Sys2Proof.Machine.execBEol s
  | .eolAtMode => Sys2Proof.Machine.execEolAtMode s
  | .p => Sys2Proof.Machine.execP s
  | .h => Sys2Proof.Machine.execH s
  | .v0 => Sys2Proof.Machine.execV0 s
  | .vr1 => Sys2Proof.Machine.execVr1 s
  | .vr2 => Sys2Proof.Machine.execVr2 s
  | .vr3 => Sys2Proof.Machine.execVr3 s
  | .vl1 => Sys2Proof.Machine.execVl1 s
  | .vl2 => Sys2Proof.Machine.execVl2 s
  | .vl3 => Sys2Proof.Machine.execVl3 s
  | .x2d ext => Sys2Proof.Machine.execX2d ext s
  | .x1d ext => Sys2Proof.Machine.execX1d ext s
  | .leol zeros => Sys2Proof.Machine.execLeol zeros s
  | .tag1 => Sys2Proof.Machine.execTag1 s
  | .tag0 => Sys2Proof.Machine.execTag0 s
  | .decodeG31d => Sys2Proof.Machine.execDecodeG31d s
  | .decodeG32d => Sys2Proof.Machine.execDecodeG32d s
  | .decodeG4 => Sys2Proof.Machine.execDecodeG4 s
  | .cmdReserved => Sys2Proof.Machine.execCmdReserved s

end Sys2Proof.Machine
end

