-- ==== Sys2Proof/Machine/Fetch.lean ====
section
/-! DEFINITION. The fetch: the bits at the cursor, decoded in the code space of the engine's position; and the placement of a word where
the next step reads it. -/

namespace Sys2Proof.Machine

/-- The bits handed to the decoder: the window of the code space (spec/30_encoding.md R93, spec/43_mode_codes.md R350, R470), the bits up
to the end of the input for a leading EOL (R464), the two bits of `CFG_MODE` for a command (spec/10_state.md R22). -/
def State.fetchBits (s : State) : List Bool :=
  match s.codeSpace with
  | .command => codeBits 2 s.cfgMode.toNat
  | .rowStart => s.bitsToEnd
  | .tag => s.peekBits 1
  | .white => s.peekBits 16
  | .black => s.peekBits 16
  | .mode => s.peekBits 12
  | .none => []

/-- The next word. -/
def State.fetch (s : State) : Except DecodeError Instr :=
  decode s.codeSpace s.fetchBits

/-- A step runs something: `STATUS = BUSY`. Else the engine is idle (spec/70_reset_and_hazards.md R531, spec/60_exceptions.md R497). -/
def State.awake (s : State) : Bool :=
  decide (s.status = .busy)

/-! ### Run sums -/

/-- The run length of a run-length word (spec/10_state.md R40), 0 for every other word. -/
def runLengthOf (i : Instr) : Nat :=
  ((whiteTable ++ blackTable).find? (fun e => decide (e.instr = i))).elim 0 (fun e => e.runLength)

/-- The run sum that the word at the cursor makes: `RUN_ACC` with the word's run added (spec/41_run_length_codes.md R121). -/
def State.runSum (s : State) : Nat :=
  match s.fetch with
  | .ok i => s.runAcc + runLengthOf i
  | .error _ => s.runAcc

/-! ### Placing a word for the next step (log entry 8) -/

/-- The byte with the bit at stream offset `j` set to `v`. -/
def setStreamBitOf (lsbFirst : Bool) (b : Byte) (j : Nat) (v : Bool) : Byte :=
  let mask : Byte := 1#8 <<< (if lsbFirst then j else 7 - j)
  if v then b ||| mask else b &&& ~~~mask

/-- Store one stream bit at the bit offset `k` of the input. -/
def State.setStreamBit (s : State) (k : Nat) (v : Bool) : State :=
  { s with input := s.input.write (k / 8) (setStreamBitOf s.cfgLsbFirst (s.inByte (k / 8)) (k % 8) v) }

/-- Store stream bits from the bit offset `k` on. -/
def State.setStreamBits (s : State) (k : Nat) : List Bool → State
  | [] => s
  | v :: vs => (s.setStreamBit k v).setStreamBits (k + 1) vs

/-- Put the bits and zeros after them, 16 bits in all, at the cursor, inside the input. -/
def State.placeBits (s : State) (bits : List Bool) : State :=
  let t := s.setStreamBits s.bitpos ((bits ++ List.replicate 16 false).take 16)
  { t with inLen := max t.inLen ((t.bitpos + 16 + 7) / 8) }

/-- The engine at a position that reads words of the code space, in a command that has such a position. -/
def State.atSpace (s : State) (sp : CodeSpace) : State :=
  match sp with
  | .command => s.startWritten
  | .rowStart => { s with status := .busy, cmdStart := false, pos := .rowStart, cfgMode := 0#2, cfgReq := max s.cfgReq (s.row + 1) }
  | .tag => { s with status := .busy, cmdStart := false, pos := .tag, cfgMode := 1#2 }
  | .white => { s with status := .busy, cmdStart := false, pos := .run, color := .white, cfgMode := 0#2 }
  | .black => { s with status := .busy, cmdStart := false, pos := .run, color := .black, cfgMode := 0#2 }
  | .mode =>
    { s with
      status := .busy
      cmdStart := false
      pos := .mode
      cfgMode := 2#2
      ref := (if s.ref = .none then .imaginary else s.ref) }
  | .none => s

/-- The state in which the next step reads and runs the table word. -/
def State.placeTableWord (s : State) (nbits w : Nat) : State :=
  match (tableSpace nbits w).1 with
  | .command => { s.atSpace .command with cfgMode := BitVec.ofNat 2 (windowOf 2 (tableBits nbits w)) }
  | sp => (s.atSpace sp).placeBits (tableBits nbits w)

end Sys2Proof.Machine
end

