-- ==== Sys2Proof/Machine/Step.lean ====
section
/-! DEFINITION. One step: one code word, or one row step that reads no word, or the start of a command (log entry 5). -/

namespace Sys2Proof.Machine

/-- One step of the block. A block that is not `BUSY` stays as it is; right after the write of `CMD_START` the selected command's start
sequence runs (spec/10_state.md R26); else the word at the cursor is executed, and where there is none, the engine answers as `noWord`
says. -/
def step (s : State) : Result :=
  if s.awake then
    match s.fetch with
    | .ok i => exec i s
    | .error e => noWord e s
  else .next s

/-- `s` with a table word placed where the next step reads it, and the engine at a position that reads it (log entry 8). -/
def State.withFetchWord (s : State) (nbits w : Nat) : State :=
  s.placeTableWord nbits w

end Sys2Proof.Machine
end

