-- ==== Sys2Proof/Machine/HostPort.lean ====
section
/-! DEFINITION. What the host can do to the block (spec/10_state.md sections 1 and 2, spec/20_memory.md R80,
spec/60_exceptions.md R499, spec/70_reset_and_hazards.md R531, R532). None of these is a step of the engine. A move the host must not
make (spec/93_implementation_defined.md I9) has no state: `none` (log entry 12). -/

namespace Sys2Proof.Machine

/-- The values the host gives the configuration registers before a command (R21). -/
structure ConfigValues where
  mode : BitVec 2
  lsbFirst : Bool
  photometric : Nat
  bps : Nat
  width : Nat
  skip : Nat
  req : Nat
  outCap : Nat
  deriving DecidableEq, Repr

/-- The host writes the configuration registers, not while `BUSY` (R80). -/
def hostConfigure (v : ConfigValues) (s : State) : Option State :=
  if s.status = .busy then none
  else
    some { s with
      cfgMode := v.mode
      cfgLsbFirst := v.lsbFirst
      cfgPhotometric := v.photometric
      cfgBps := v.bps
      cfgWidth := v.width
      cfgSkip := v.skip
      cfgReq := v.req
      outCap := v.outCap }

/-- The host hands over the input buffer and its length, not while `BUSY` (R80). -/
def hostLoadInput (bytes : List Byte) (s : State) : Option State :=
  if s.status = .busy then none
  else some { s with input := Memory.load [] 0 bytes, inLen := bytes.length }

/-- The host writes a byte of the output buffer, not while `BUSY`, and only one that exists (R80). -/
def hostWriteOutput (a : Nat) (v : Byte) (s : State) : Option State :=
  if s.status = .busy then none
  else if a < s.outCap then some { s with output := s.output.write a v } else none

/-- The host reads the configuration registers (spec/60_exceptions.md R499: configuration is read/write). A read changes nothing, and no
duty of R80 forbids it while `BUSY`. -/
def hostReadConfig (s : State) : ConfigValues where
  mode := s.cfgMode
  lsbFirst := s.cfgLsbFirst
  photometric := s.cfgPhotometric
  bps := s.cfgBps
  width := s.cfgWidth
  skip := s.cfgSkip
  req := s.cfgReq
  outCap := s.outCap

/-- The host reads `IN_LEN` (R499). -/
def hostReadInLen (s : State) : Nat :=
  s.inLen

/-- The host writes `CMD_START` (R26): `STATUS` is `BUSY` from the write on; a write while `BUSY` is ignored. -/
def hostStart (s : State) : State :=
  if s.status = .busy then s else s.startWritten

/-- The host reads `STATUS` (R27), at any time. -/
def hostReadStatus (s : State) : Status :=
  s.status

/-- The host reads `FAULT_CODE` as a number (R28, R491), once `STATUS` is not `BUSY` (R77). -/
def hostReadFaultCode (s : State) : Option Nat :=
  if s.status = .busy then none else some (faultNumber s.faultCode)

/-- The host reads `BITPOS_OUT` (R29), once `STATUS` is not `BUSY` (R77). -/
def hostReadBitposOut (s : State) : Option Nat :=
  if s.status = .busy then none else some s.bitposOut

/-- The host reads an output byte that exists, once `STATUS` is not `BUSY` (R77). -/
def hostReadOutput (a : Nat) (s : State) : Option Byte :=
  if s.status = .busy then none
  else if a < s.outCap then some (s.output.read a) else none

/-- A hardware reset (R531): the registers as in `State.reset`, the buffers not changed; a reset while `BUSY` abandons the command, and
the output bytes `0..ROWS*WIDTH-1` that exist become free values, as after a fault (log entry 15). -/
def hardReset (s : State) : State :=
  { State.reset with
    input := s.input
    output := (if s.status = .busy then s.output.unspecified s.freeCount (min (s.rows * s.cfgWidth) s.outCap) else s.output)
    freeCount := s.freeCount + 1 }

end Sys2Proof.Machine
end

