-- ==== Sys2Proof/Safety.lean ====
section
/-! DEFINITION. The terms in which claims about runs are stated: the invariant of the engine, the bound on the cursor, the number of
steps a command has left, the part of the image that is written, and when a finite hardware refines the model. -/

namespace Sys2Proof.Machine

/-- The configuration passes `CheckConfig` (spec/47_line_orchestrators.md R460). -/
abbrev State.configOk (s : State) : Prop :=
  s.cfgMode ≠ 3#2 ∧ s.cfgPhotometric ≤ 1 ∧ s.cfgBps = 1 ∧ s.cfgWidth * s.rows ≤ s.outCap

/-- `REF` is what the orchestrators leave in it (spec/10_state.md R36, spec/47_line_orchestrators.md R471, R473): none before the first
row of a Group 3 command, the imaginary row before that of Group 4, else the row before the current one. -/
def State.refOk (s : State) : Bool :=
  match s.ref with
  | .none => (decide (s.command = .g31d) || decide (s.command = .g32d)) && decide (s.row = 0)
  | .imaginary => decide (s.command = .g4) && decide (s.row = 0)
  | .row r => decide (r + 1 = s.row)

/-- `A0 = UNPACKED`, or the row has not begun (spec/46_two_dimensional.md R420). -/
abbrev State.a0Ok (s : State) : Prop :=
  s.a0 = (s.unpacked : Int) ∨ (s.a0 = -1 ∧ s.unpacked = 0 ∧ s.color = .white)

/-- What holds inside a row at each position (spec/30_encoding.md R92): a run or a mode is read only while `UNPACKED < WIDTH`
(R401, R420), and a mode only in a row that has a reference (R386, R471). -/
def State.posOk (s : State) : Bool :=
  match s.pos with
  | .rowStart => true
  | .tag => decide (s.command = .g32d)
  | .run => decide (s.unpacked < s.cfgWidth) && (decide (s.command = .g31d) || decide (s.command = .g32d))
  | .mode => decide (s.unpacked < s.cfgWidth) && decide (s.ref ≠ .none) && decide s.a0Ok
  | .hRun1 => decide (s.unpacked < s.cfgWidth) && decide (s.ref ≠ .none) && decide s.a0Ok
  | .hRun2 => decide (s.unpacked < s.cfgWidth) && decide (s.ref ≠ .none) && decide s.a0Ok

/-- What holds while a command runs, once its start sequence is done. -/
abbrev State.busyOk (s : State) : Prop :=
  s.configOk ∧ s.row ≤ s.rows ∧ (s.pos ≠ .rowStart → s.row < s.rows) ∧ s.refOk = true ∧ s.posOk = true

/-- The invariant of the engine: both spaces are in canonical form, `FAULT_CODE` holds `NONE` unless `STATUS = FAULT`
(spec/10_state.md R28), a start sequence that has not run belongs to a `BUSY` block (R26), and a running command is where it can be. -/
abbrev State.Inv (s : State) : Prop :=
  s.input.wf = true ∧ s.output.wf = true ∧ (s.status = .fault ↔ s.faultCode ≠ .none) ∧ (s.cmdStart = true → s.status = .busy) ∧
    (s.status = .busy → s.cmdStart = false → s.busyOk)

/-- The bound on the cursor (spec/70_reset_and_hazards.md R534 h): past the end of the input by at most 16 bits. -/
abbrev State.cursorInv (s : State) : Prop :=
  (s.status = .busy → s.cmdStart = false → s.bitpos ≤ 8 * s.inLen + 16 ∧ (s.pos = .tag → s.bitpos ≤ 8 * s.inLen)) ∧
    (s.status = .done → s.bitposOut ≤ 8 * s.inLen + 16)

/-- How many steps a running command has left at most: the start sequence, and then code or row steps (R534 g), `8*LEN + 1 + ROWS` of
them at the start. -/
def State.stepsLeft (s : State) : Nat :=
  if s.cmdStart then 8 * s.inLen + s.rows + 2
  else (8 * s.inLen - s.bitpos) + (s.rows - s.row) + (if s.pos = .rowStart ∨ s.pos = .tag then 1 else 0)

/-- How many output bytes, from byte 0 on, the command has written (spec/10_state.md R35, spec/20_memory.md R72, R74). -/
def State.written (s : State) : Nat :=
  match s.status with
  | .busy =>
    if s.cmdStart then 0 else s.row * s.cfgWidth + (if s.pos = .rowStart ∨ s.pos = .tag then 0 else s.unpacked)
  | .done => s.rows * s.cfgWidth
  | .idle => 0
  | .fault => 0

/-- Two states differ at most in output bytes that the command has not written. -/
def State.agrees (s t : State) : Prop :=
  s = { t with output := s.output } ∧ ∀ a, a < s.written → s.output.read a = t.output.read a

/-- Every byte that the command has written is a colour byte (spec/20_memory.md R70). -/
def State.imageInv (s : State) : Prop :=
  ∀ a, a < s.written → s.output.read a = s.byteOf .white ∨ s.output.read a = s.byteOf .black

/-- The steps from `s` on until the first stop: the host's runner, for claims about whole commands. -/
def runSteps (k : Nat) (s : State) : Result :=
  Host.Core.run Sys2Proof.core k s

/-- Every run sum of the command that a write of `CMD_START` in `s` starts is below `bound` (spec/00_scope.md R4). -/
def State.runSumsBelow (bound : Nat) (s : State) : Prop :=
  ∀ k t, runSteps k (hostStart s) = .next t → t.status = .busy → t.cmdStart = false → t.runSum < bound

/-- The configurations, with their input, on which a hardware with counters of `P_COUNTER_BITS` bits refines the model
(spec/00_scope.md R4): `8*LEN + 32`, `WIDTH`, `WIDTH*ROWS` and every run sum fit (log entry 13). -/
def State.countersFit (s : State) : Prop :=
  8 * s.inLen + 32 < 2 ^ Config.counterBits ∧ s.cfgWidth < 2 ^ Config.counterBits ∧
    s.cfgWidth * s.rows < 2 ^ Config.counterBits ∧ s.runSumsBelow (2 ^ Config.counterBits)

end Sys2Proof.Machine
end

