-- ==== Sys2Proof/Certificates/Slice0/Obligations.lean ====
section
/-! DEFINITION. The statements for the provers. `runTable c` is the white or the black table, so a statement about its entries is about the
105 words of each: W0..W63, WM64..WM2560, W_EOL and B0..B63, BM64..BM2560, B_EOL. -/

open Sys2Proof Sys2Proof.Machine

/-! ### Reset and the whole machine -/

/-- Reset leaves `STATUS = IDLE`, `FAULT_CODE = NONE`, `BITPOS_OUT = 0`, and nothing to run (R44, R531).
The model's choice: log entry 7 (an idle step changes nothing). -/
def Obligations.ResetIsIdle : Prop :=
  State.reset.status = .idle ∧ State.reset.faultCode = .none ∧ State.reset.bitposOut = 0 ∧
    step State.reset = .next State.reset

/-- The invariants hold right after reset.
The model's choice: log entries 1, 2 and 3. -/
def Obligations.ResetMeetsInvariants : Prop :=
  State.reset.Inv ∧ State.reset.cursorInv ∧ State.reset.imageInv

/-- Every step keeps the invariant of the engine.
The model's choice: log entries 5 and 6. -/
def Obligations.StepKeepsInvariant : Prop :=
  ∀ s t : State, s.Inv → step s = .next t → t.Inv

/-- From a state that meets the invariant, a step always answers a next state: no word is refused, no access leaves the output space, no
search lacks its reference row.
The model's choice: log entries 5, 6 and 11. -/
def Obligations.StepNeverStops : Prop :=
  ∀ s : State, s.Inv → ∃ t, step s = .next t

/-- Each step of a running command ends it or leaves it fewer code or row steps (R534 g: at most `N + 1 + ROWS`).
The model's choice: log entries 5 and 6. -/
def Obligations.BusyStepCountsDown : Prop :=
  ∀ s : State, s.Inv → s.status = .busy →
    ∃ t, step s = .next t ∧
      (t.status = .done ∨ t.status = .fault ∨ (t.status = .busy ∧ t.stepsLeft < s.stepsLeft))

/-- Every command terminates (R534): started in any state of an engine that is not running, it ends with `DONE` or `FAULT` within
`8*LEN + 1 + ROWS` code or row steps after its start sequence. The start is the write of `CMD_START`, after which `STATUS` is `BUSY`.
The model's choice: log entries 5 and 7. -/
def Obligations.CommandTerminates : Prop :=
  ∀ s : State, s.Inv → s.status ≠ .busy →
    (hostStart s).status = .busy ∧
      ∃ k t, 1 ≤ k ∧ k ≤ 8 * s.inLen + s.rows + 2 ∧ runSteps k (hostStart s) = .next t ∧
        (t.status = .done ∨ t.status = .fault)

/-- The cursor never passes the end of the input by more than 16 bits (R534 h).
The model's choice: log entry 6. -/
def Obligations.StepKeepsCursorBound : Prop :=
  ∀ s t : State, s.cursorInv → step s = .next t → t.cursorInv

/-- Two runs that differ only in output bytes the command has not written stay so, step by step, and end alike: the earlier contents of
the output space have no effect (R42, R74).
The model's choice: log entries 4 and 5. -/
def Obligations.StepIgnoresOldOutput : Prop :=
  ∀ s t s' : State, s.Inv → t.output.wf = true → s.agrees t → step s = .next s' →
    ∃ t', step t = .next t' ∧ s'.agrees t'

/-- Every byte that a command has written is a colour byte, from its first step to `DONE`, where all `ROWS*WIDTH` bytes are written
(R70, R74).
The model's choice: log entry 6. -/
def Obligations.StepKeepsImageBytes : Prop :=
  ∀ s t : State, s.Inv → s.imageInv → step s = .next t → t.imageInv

/-- No step writes a configuration register or the input space (R21, R61).
The model's choice: log entry 5. -/
def Obligations.StepKeepsConfigAndInput : Prop :=
  ∀ s t : State, step s = .next t →
    t.cfgMode = s.cfgMode ∧ t.cfgLsbFirst = s.cfgLsbFirst ∧ t.cfgPhotometric = s.cfgPhotometric ∧ t.cfgBps = s.cfgBps ∧
      t.cfgWidth = s.cfgWidth ∧ t.cfgSkip = s.cfgSkip ∧ t.cfgReq = s.cfgReq ∧ t.inLen = s.inLen ∧ t.outCap = s.outCap ∧
      t.input = s.input

/-- No step, not even one that faults, changes an output byte at or above `ROWS*WIDTH` (R72, R74, R492).
The model's choice: log entries 4 and 5. -/
def Obligations.StepKeepsBytesAboveImage : Prop :=
  ∀ s t : State, s.Inv → step s = .next t →
    ∀ a, s.rows * s.cfgWidth ≤ a → t.output.read a = s.output.read a

/-- `STATUS` moves only as R26 and R27 say: a step never makes it `IDLE` or `BUSY`, only a running command becomes `DONE` or `FAULT`, and a
block that is not `BUSY` stays as it is.
The model's choice: log entries 5 and 7. -/
def Obligations.StatusMoves : Prop :=
  ∀ s t : State, step s = .next t →
    (t.status = .idle → s.status = .idle) ∧ (t.status = .done → s.status = .busy ∨ s.status = .done) ∧
      (t.status = .busy → s.status = .busy) ∧ (s.status ≠ .busy → t = s)

/-- No step of a running command that does not fault moves the cursor back, once the start sequence has set it (R31, R43).
The model's choice: log entry 5. -/
def Obligations.CursorNeverGoesBack : Prop :=
  ∀ s t : State, s.status = .busy → s.cmdStart = false → step s = .next t → t.status ≠ .fault → s.bitpos ≤ t.bitpos

/-! ### Encoding -/

/-- Decoding an encoded word gives it back, whatever bits follow.
The model's choice: log entry 16 (five extension bits). -/
def Obligations.DecodeOfEncode : Prop :=
  ∀ (i : Instr) (rest : List Bool), i.wf = true → decode i.space (encode i ++ rest) = .ok i

/-- What the decoder accepts is a word of the code space, and its encoding is what stands at the cursor (zero-padded past the end). -/
def Obligations.DecodedWordStandsThere : Prop :=
  ∀ (sp : CodeSpace) (bits : List Bool) (i : Instr), decode sp bits = .ok i →
    i.space = sp ∧ i.wf = true ∧ encode i <+: bits ++ List.replicate 16 false

/-- A few words written out from the spec: W1 and WM64 and B0 (the source's vectors), V0, P, the EOL at a mode position, the leading EOL of
15 zeros (R464), both tags and the four commands. -/
def Obligations.SpelledOutWords : Prop :=
  decode .white [false, false, false, true, true, true] = .ok .w1 ∧
    decode .white [true, true, false, true, true] = .ok .wm64 ∧
    decode .black [false, false, false, false, true, true, false, true, true, true] = .ok .b0 ∧
    decode .mode [true] = .ok .v0 ∧
    decode .mode [false, false, false, true] = .ok .p ∧
    decode .mode (List.replicate 11 false ++ [true]) = .ok .eolAtMode ∧
    decode .rowStart (List.replicate 15 false ++ [true]) = .ok (.leol 15) ∧
    decode .tag [true] = .ok .tag1 ∧ decode .tag [false] = .ok .tag0 ∧
    decode .command [false, false] = .ok .decodeG31d ∧ decode .command [false, true] = .ok .decodeG32d ∧
    decode .command [true, false] = .ok .decodeG4 ∧ decode .command [true, true] = .ok .cmdReserved

/-- A 16-bit window misses a run-length table exactly when its first 8 bits are 0 and it does not begin with the EOL (R97). -/
def Obligations.RunLookupMissWindows : Prop :=
  ∀ (c : Colour) (w : Nat), w < 65536 → (runLookup (runTable c) w = none ↔ w < 256 ∧ w >>> 4 ≠ 1)

/-- The mode lookup cannot miss (R99). -/
def Obligations.ModeLookupNeverMisses : Prop :=
  ∀ bits : List Bool, decode .mode bits ≠ .error .modeLookupMiss

/-- A step of an engine that runs executes the word of the fetch; where the fetch finds none, it does what `noWord` says; an engine that is
idle stays as it is.
The model's choice: log entries 5 and 7. -/
def Obligations.StepRunsFetchedWord : Prop :=
  ∀ s : State,
    (s.awake = true → ∀ i, s.fetch = .ok i → step s = exec i s) ∧
      (s.awake = true → ∀ e, s.fetch = .error e → step s = noWord e s) ∧
      (s.awake = false → step s = .next s)

/-- Where the bits at the cursor are the encoding of a well-formed word of the code space that a running command reads, the step is that
word's meaning.
The model's choice: log entries 5 and 6. -/
def Obligations.StepRunsWordAtCursor : Prop :=
  ∀ (i : Instr) (s : State), i.wf = true → s.status = .busy → s.cmdStart = false → s.codeSpace = i.space →
    s.peekBits (encode i).length = encode i → step s = exec i s

/-- A write of `CMD_START` while no command runs sets `BUSY`, and the next step is the start sequence of the command that `CFG_MODE` selects
(R22, R26).
The model's choice: log entry 7. -/
def Obligations.StepStartsSelectedCommand : Prop :=
  ∀ s : State, s.status ≠ .busy →
    (hostStart s).status = .busy ∧ (hostStart s).codeSpace = .command ∧
      (s.cfgMode = 0#2 → step (hostStart s) = exec .decodeG31d (hostStart s)) ∧
      (s.cfgMode = 1#2 → step (hostStart s) = exec .decodeG32d (hostStart s)) ∧
      (s.cfgMode = 2#2 → step (hostStart s) = exec .decodeG4 (hostStart s)) ∧
      (s.cfgMode = 3#2 → step (hostStart s) = exec .cmdReserved (hostStart s))

/-! ### The bit reader and the output space -/

/-- `StreamBit(k)` in both bit orders, and zero past the end (R62). -/
def Obligations.StreamBitOrder : Prop :=
  ∀ (s : State) (k : Nat),
    (8 * s.inLen ≤ k → s.streamBit k = false) ∧
      (k < 8 * s.inLen → s.cfgLsbFirst = false → s.streamBit k = (s.inByte (k / 8)).getLsbD (7 - k % 8)) ∧
      (k < 8 * s.inLen → s.cfgLsbFirst = true → s.streamBit k = (s.inByte (k / 8)).getLsbD (k % 8))

/-- `Peek(n)` is the sum of the next `n` stream bits, the first the most significant; past the end of the input it is zero (R63). -/
def Obligations.PeekIsLeftJustified : Prop :=
  ∀ (s : State) (n : Nat),
    s.peek n = ((List.range n).map (fun i => (s.streamBit (s.bitpos + i)).toNat <<< (n - 1 - i))).sum ∧
      (8 * s.inLen ≤ s.bitpos → s.peek n = 0)

/-- `AlignByte()` moves the cursor to the least multiple of 8 at or after it, and nothing else (R66). -/
def Obligations.AlignByteRoundsUp : Prop :=
  ∀ s : State, s.alignByte = { s with bitpos := s.alignByte.bitpos } ∧ 8 ∣ s.alignByte.bitpos ∧
    s.bitpos ≤ s.alignByte.bitpos ∧ s.alignByte.bitpos < s.bitpos + 8 ∧ (s.bitpos % 8 = 0 → s.alignByte.bitpos = s.bitpos)

/-- `Fill(row, from, to, Byte(c))` writes the bytes `row*WIDTH + i` for `from <= i < to`, and no other byte or register (R71). -/
def Obligations.FillWritesItsBytes : Prop :=
  ∀ (row lo hi : Nat) (c : Colour) (s : State), s.output.wf = true → row * s.cfgWidth + hi ≤ s.outCap →
    ∃ t, fill row lo hi c s = .next t ∧ t = { s with output := t.output } ∧
      ∀ a, t.output.read a =
        if row * s.cfgWidth + lo ≤ a ∧ a < row * s.cfgWidth + hi then s.byteOf c else s.output.read a

/-- The colour bytes: 0x00 and 0xFF under WhiteIsZero, 0xFF and 0x00 under BlackIsZero; any other value of `CFG_PHOTOMETRIC` faults before
decoding (R25).
The model's choice: log entries 4 and 14 (the abort). -/
def Obligations.ColourBytes : Prop :=
  ∀ s : State,
    (s.cfgPhotometric = 0 → s.byteOf .white = 0x00#8 ∧ s.byteOf .black = 0xFF#8) ∧
      (s.cfgPhotometric = 1 → s.byteOf .white = 0xFF#8 ∧ s.byteOf .black = 0x00#8) ∧
      (1 < s.cfgPhotometric → s.cfgMode ≠ 3#2 → s.codeSpace = .command →
        startCommand s.command s = .next (s.initDatapath.abort .unsupportedPhotometric))

/-! ### The reference row -/

/-- `FindB1` on a real row: the least changing element right of `a0` whose byte is not `Byte(c)`, or `WIDTH` (R381, R382). -/
def Obligations.FindB1IsLeast : Prop :=
  ∀ (s : State) (r : Nat) (a0 : Int) (c : Colour), s.ref = .row r →
    let good := fun i : Nat => a0 < (i : Int) ∧ i < s.cfgWidth ∧ s.refPixel r i ≠ s.byteOf c ∧
      ((i = 0 ∧ s.refPixel r 0 ≠ s.byteOf .white) ∨ (1 ≤ i ∧ s.refPixel r i ≠ s.refPixel r (i - 1)))
    (good (s.findB1 a0 c) ∨ (s.findB1 a0 c = s.cfgWidth ∧ ∀ i, ¬ good i)) ∧ ∀ i, good i → s.findB1 a0 c ≤ i

/-- `FindB2` on a real row: the least changing element right of `b1`, or `WIDTH` (R381, R383). -/
def Obligations.FindB2IsLeast : Prop :=
  ∀ (s : State) (r : Nat) (b1 : Int), s.ref = .row r →
    let good := fun i : Nat => b1 < (i : Int) ∧ i < s.cfgWidth ∧
      ((i = 0 ∧ s.refPixel r 0 ≠ s.byteOf .white) ∨ (1 ≤ i ∧ s.refPixel r i ≠ s.refPixel r (i - 1)))
    (good (s.findB2 b1) ∨ (s.findB2 b1 = s.cfgWidth ∧ ∀ i, ¬ good i)) ∧ ∀ i, good i → s.findB2 b1 ≤ i

/-- On the imaginary all-white row both searches answer `WIDTH` (R384, R385). -/
def Obligations.ImaginaryRowHasNoChange : Prop :=
  ∀ (s : State) (a0 b1 : Int) (c : Colour), s.ref = .imaginary → s.findB1 a0 c = s.cfgWidth ∧ s.findB2 b1 = s.cfgWidth

/-- The order of `a0`, `b1`, `b2` and `WIDTH` (R387). -/
def Obligations.SearchStaysInOrder : Prop :=
  ∀ (s : State) (a0 b1 : Int) (c : Colour), s.ref ≠ .none → 0 ≤ b1 → b1 ≤ s.cfgWidth →
    s.findB1 a0 c ≤ s.cfgWidth ∧ (a0 < (s.findB1 a0 c : Int) ∨ s.findB1 a0 c = s.cfgWidth) ∧
      s.findB1 a0 c ≤ s.findB2 (s.findB1 a0 c) ∧ s.findB2 b1 ≤ s.cfgWidth ∧
      (b1 < (s.findB2 b1 : Int) ∨ b1 = s.cfgWidth)

/-! ### Run-length words -/

/-- A makeup word advances by its length and adds its run; the run continues in the same table (R186 to R225, R291 to R330). Nothing else
changes.
The model's choice: log entry 6. -/
def Obligations.MakeupWordAddsRun : Prop :=
  ∀ (c : Colour) (e : RunEntry) (s : State), e ∈ runTable c → e.kind = .makeup → s.codeSpace = runSpace c →
    exec e.instr s = .next { s with bitpos := s.bitpos + e.bitsRequired, runAcc := s.runAcc + e.runLength }

/-- A terminating word in a 1-D row that it does not complete: the run (with its makeup codes) is filled in the colour, `UNPACKED`
advances, the colour flips, and the next run begins (R121, R401, R404). Nothing else changes.
The model's choice: log entries 6 and 9. -/
def Obligations.TerminatingWordContinuesRow : Prop :=
  ∀ (c : Colour) (e : RunEntry) (s : State), e ∈ runTable c → e.kind = .terminating →
    s.status = .busy → s.cmdStart = false → s.pos = .run → s.color = c →
    s.unpacked + (s.runAcc + e.runLength) < s.cfgWidth → (s.row + 1) * s.cfgWidth ≤ s.outCap →
    exec e.instr s = .next { s with
      bitpos := s.bitpos + e.bitsRequired
      runAcc := 0
      output := s.output.fill (s.row * s.cfgWidth + s.unpacked) (s.byteOf c) (s.runAcc + e.runLength)
      unpacked := s.unpacked + (s.runAcc + e.runLength)
      color := c.opp }

/-- A terminating word that completes a 1-D row exactly: the row is filled, ends and becomes the reference (R36, R473); Group 3 1-D aligns
unless the row's leading EOL was consumed (R466).
The model's choice: log entries 6 and 10. -/
def Obligations.TerminatingWordEndsRow : Prop :=
  ∀ (c : Colour) (e : RunEntry) (s : State), e ∈ runTable c → e.kind = .terminating →
    s.status = .busy → s.cmdStart = false → s.pos = .run → s.color = c →
    s.unpacked + (s.runAcc + e.runLength) = s.cfgWidth → (s.row + 1) * s.cfgWidth ≤ s.outCap →
    ∃ t, exec e.instr s = .next t ∧ t.status = .busy ∧ t.pos = .rowStart ∧ t.row = s.row + 1 ∧
      t.unpacked = s.cfgWidth ∧ t.color = c.opp ∧
      t.output = s.output.fill (s.row * s.cfgWidth + s.unpacked) (s.byteOf c) (s.runAcc + e.runLength) ∧
      t.ref = .row s.row ∧
      (s.cfgMode = 0#2 →
        t.bitpos = if s.eolSeen then s.bitpos + e.bitsRequired else 8 * ((s.bitpos + e.bitsRequired + 7) / 8)) ∧
      (s.cfgMode = 1#2 → t.bitpos = s.bitpos + e.bitsRequired)

/-- A run that would take `UNPACKED` past `WIDTH` raises `OVERSHOOT`, never tolerated, not even on the final row (R402).
The model's choice: log entries 4 and 14 (what the abort leaves free) and 6 (the position). -/
def Obligations.OvershootingRunFaults : Prop :=
  ∀ (c : Colour) (e : RunEntry) (s : State), e ∈ runTable c → e.kind = .terminating →
    s.status = .busy → s.cmdStart = false → s.pos = .run → s.color = c → s.cfgWidth < s.unpacked + (s.runAcc + e.runLength) →
    exec e.instr s = .next (s.abort .overshoot)

/-- A terminating word that ends the first run of a Horizontal mode: `H_RUN1` holds the run and the second run begins, in the other
colour's table (R423). Nothing else changes.
The model's choice: log entries 6 and 9. -/
def Obligations.FirstHorizontalRunIsHeld : Prop :=
  ∀ (c : Colour) (e : RunEntry) (s : State), e ∈ runTable c → e.kind = .terminating →
    s.status = .busy → s.cmdStart = false → s.pos = .hRun1 → s.color = c →
    ∃ t, exec e.instr s = .next t ∧ t.codeSpace = runSpace c.opp ∧
      t = { s with bitpos := s.bitpos + e.bitsRequired, hRun1 := s.runAcc + e.runLength, runAcc := 0, pos := .hRun2 }

/-- A terminating word that ends the second run of a Horizontal mode (R423): both runs are filled, `UNPACKED` and `A0` advance, the colour
is unchanged; the next mode is read, or the row ends and becomes the reference (R433, R473); past `WIDTH` it is `OVERSHOOT`.
The model's choice: log entries 4 and 6. -/
def Obligations.SecondHorizontalRunFills : Prop :=
  ∀ (c : Colour) (e : RunEntry) (s : State), e ∈ runTable c.opp → e.kind = .terminating →
    s.status = .busy → s.cmdStart = false → s.pos = .hRun2 → s.color = c → (s.row + 1) * s.cfgWidth ≤ s.outCap →
    (s.cfgWidth < s.unpacked + s.hRun1 + (s.runAcc + e.runLength) → exec e.instr s = .next (s.abort .overshoot)) ∧
      (s.unpacked + s.hRun1 + (s.runAcc + e.runLength) ≤ s.cfgWidth →
        ∃ t, exec e.instr s = .next t ∧ t.status = .busy ∧
          t.unpacked = s.unpacked + s.hRun1 + (s.runAcc + e.runLength) ∧ t.a0 = (t.unpacked : Int) ∧ t.color = c ∧
          t.output = (s.output.fill (s.row * s.cfgWidth + s.unpacked) (s.byteOf c) s.hRun1).fill
            (s.row * s.cfgWidth + (s.unpacked + s.hRun1)) (s.byteOf c.opp) (s.runAcc + e.runLength) ∧
          (t.unpacked < s.cfgWidth → t.pos = .mode ∧ t.row = s.row ∧ t.ref = s.ref ∧ t.bitpos = s.bitpos + e.bitsRequired) ∧
          (t.unpacked = s.cfgWidth → s.cfgMode ≠ 0#2 →
            t.pos = .rowStart ∧ t.row = s.row + 1 ∧ t.ref = .row s.row ∧ t.bitpos = s.bitpos + e.bitsRequired))

/-- The EOL entry of either table where a data code was expected (R226, R331): on the last row of Group 3 1-D the rest of the row is
padded with the colour of the run being decoded and the command ends `DONE`, the EOL not consumed (R468); everywhere else it is
`UNEXPECTED_EOL` (R467, R470, R423).
The model's choice: log entries 4 and 6. -/
def Obligations.EolWordPadsOrFaults : Prop :=
  ∀ (c : Colour) (e : RunEntry) (s : State), e ∈ runTable c → e.kind = .endOfLine → s.codeSpace = runSpace c →
    (s.cfgMode = 0#2 → s.pos = .run → s.row + 1 = s.rows → (s.row + 1) * s.cfgWidth ≤ s.outCap →
      exec e.instr s = .next { s with
        output := s.output.fill (s.row * s.cfgWidth + s.unpacked) (s.byteOf c) (s.cfgWidth - s.unpacked)
        bitposOut := s.bitpos
        status := .done
        faultCode := .none }) ∧
      (¬ (s.cfgMode = 0#2 ∧ s.pos = .run ∧ s.row + 1 = s.rows) → exec e.instr s = .next (s.abort .unexpectedEol))

/-- A lookup miss at a run position (R121): the tolerated pad on the last row of Group 3 1-D (R468), else `RL_LOOKUP_MISS` (R423, R467,
R470). The step reads no word.
The model's choice: log entries 4, 5 and 6. -/
def Obligations.LookupMissPadsOrFaults : Prop :=
  ∀ (c : Colour) (s : State), s.codeSpace = runSpace c → runLookup (runTable c) (s.peek 16) = none → s.cmdStart = false →
    (s.cfgMode = 0#2 → s.pos = .run → s.row + 1 = s.rows → (s.row + 1) * s.cfgWidth ≤ s.outCap →
      step s = .next { s with
        output := s.output.fill (s.row * s.cfgWidth + s.unpacked) (s.byteOf c) (s.cfgWidth - s.unpacked)
        bitposOut := s.bitpos
        status := .done
        faultCode := .none }) ∧
      (¬ (s.cfgMode = 0#2 ∧ s.pos = .run ∧ s.row + 1 = s.rows) → step s = .next (s.abort .rlLookupMiss))

/-! ### Mode words -/

/-- The Vertical modes V0, VR1 to VR3 and VL1 to VL3, each with its code length and delta (R351, R354 to R359, R424 to R430): past `WIDTH` the
target is `OVERSHOOT`, left of `UNPACKED` it is `NEGATIVE_RUN`.
The model's choice: log entries 4 and 6. -/
def Obligations.VerticalModeFaults : Prop :=
  ∀ (i : Instr) (n : Nat) (d : Int) (s : State),
    (i, n, d) ∈ [(Instr.v0, 1, (0 : Int)), (.vr1, 3, 1), (.vr2, 6, 2), (.vr3, 7, 3), (.vl1, 3, -1), (.vl2, 6, -2), (.vl3, 7, -3)] →
    s.codeSpace = .mode → s.refProblem = none →
    ((s.cfgWidth : Int) < s.findB1 s.a0 s.color + d → exec i s = .next (s.abort .overshoot)) ∧
      ((s.findB1 s.a0 s.color : Int) + d ≤ s.cfgWidth → (s.findB1 s.a0 s.color : Int) + d < s.unpacked →
        exec i s = .next (s.abort .negativeRun))

/-- A Vertical mode whose target `A1 = B1 + d` lies at or after `UNPACKED` and before `WIDTH` (R424 to R430): the pixels up to `A1` are
filled in the colour, `UNPACKED` and `A0` become `A1`, the colour flips, and the next mode is read. Nothing else changes but `B1` and
`A1`.
The model's choice: log entry 6. -/
def Obligations.VerticalModeContinuesRow : Prop :=
  ∀ (i : Instr) (n : Nat) (d : Int) (s : State),
    (i, n, d) ∈ [(Instr.v0, 1, (0 : Int)), (.vr1, 3, 1), (.vr2, 6, 2), (.vr3, 7, 3), (.vl1, 3, -1), (.vl2, 6, -2), (.vl3, 7, -3)] →
    s.codeSpace = .mode → s.refProblem = none → (s.row + 1) * s.cfgWidth ≤ s.outCap →
    (s.unpacked : Int) ≤ s.findB1 s.a0 s.color + d → (s.findB1 s.a0 s.color : Int) + d < s.cfgWidth →
    exec i s = .next { s with
      bitpos := s.bitpos + n
      b1 := ((s.findB1 s.a0 s.color : Nat) : Int)
      a1 := (s.findB1 s.a0 s.color : Int) + d
      output := s.output.fill (s.row * s.cfgWidth + s.unpacked) (s.byteOf s.color)
        (((s.findB1 s.a0 s.color : Int) + d).toNat - s.unpacked)
      unpacked := ((s.findB1 s.a0 s.color : Int) + d).toNat
      a0 := (s.findB1 s.a0 s.color : Int) + d
      color := s.color.opp }

/-- A Vertical mode whose target is `WIDTH` ends the row (R424 to R430, R433), which becomes the reference (R473).
The model's choice: log entry 6. -/
def Obligations.VerticalModeEndsRow : Prop :=
  ∀ (i : Instr) (n : Nat) (d : Int) (s : State),
    (i, n, d) ∈ [(Instr.v0, 1, (0 : Int)), (.vr1, 3, 1), (.vr2, 6, 2), (.vr3, 7, 3), (.vl1, 3, -1), (.vl2, 6, -2), (.vl3, 7, -3)] →
    s.codeSpace = .mode → s.refProblem = none → s.cfgMode ≠ 0#2 → (s.row + 1) * s.cfgWidth ≤ s.outCap →
    s.unpacked ≤ s.cfgWidth → (s.findB1 s.a0 s.color : Int) + d = s.cfgWidth →
    exec i s = .next { s with
      bitpos := s.bitpos + n
      b1 := ((s.findB1 s.a0 s.color : Nat) : Int)
      a1 := (s.cfgWidth : Int)
      output := s.output.fill (s.row * s.cfgWidth + s.unpacked) (s.byteOf s.color) (s.cfgWidth - s.unpacked)
      unpacked := s.cfgWidth
      a0 := (s.cfgWidth : Int)
      color := s.color.opp
      ref := .row s.row
      row := s.row + 1
      pos := .rowStart }

/-- Pass (R353, R422): the pixels up to `B2` are filled in the colour, `UNPACKED` and `A0` become `B2`, the colour does not flip; the next
mode is read, or the row ends and becomes the reference (R433, R473).
The model's choice: log entry 6. -/
def Obligations.PassFillsToB2 : Prop :=
  ∀ s : State, s.codeSpace = .mode → s.refProblem = none → s.cfgMode ≠ 0#2 → (s.row + 1) * s.cfgWidth ≤ s.outCap →
    let b1 := s.findB1 s.a0 s.color
    let b2 := s.findB2 b1
    let u : State := { s with
      bitpos := s.bitpos + 4
      b1 := (b1 : Int)
      b2 := (b2 : Int)
      output := s.output.fill (s.row * s.cfgWidth + s.unpacked) (s.byteOf s.color) (b2 - s.unpacked)
      unpacked := b2
      a0 := (b2 : Int) }
    (b2 < s.cfgWidth → exec .p s = .next u) ∧
      (b2 = s.cfgWidth → exec .p s = .next { u with ref := .row s.row, row := s.row + 1, pos := .rowStart })

/-- Horizontal (R352, R423): the mode advances 3 bits and its first run begins, in the colour's table, with `RUN_ACC = 0`. `B1` is
searched; nothing else changes.
The model's choice: log entries 5 and 6, and 9 (`RUN_ACC` becomes 0 here). -/
def Obligations.HorizontalBeginsFirstRun : Prop :=
  ∀ s : State, s.codeSpace = .mode → s.refProblem = none →
    ∃ t, exec .h s = .next t ∧ t.codeSpace = runSpace s.color ∧
      t = { s with bitpos := s.bitpos + 3, b1 := ((s.findB1 s.a0 s.color : Nat) : Int), runAcc := 0, pos := .hRun1 }

/-- An extension escape always ends the command with `UNSUPPORTED_EXTENSION`, whatever its extension bits (R360, R361).
The model's choice: log entries 4 and 16. -/
def Obligations.ExtensionFaults : Prop :=
  ∀ (ext : BitVec 5) (s : State), s.codeSpace = .mode →
    exec (.x2d ext) s = .next (s.abort .unsupportedExtension) ∧ exec (.x1d ext) s = .next (s.abort .unsupportedExtension)

/-- The EOL at a mode position (R421): in Group 4 the rest of the image is padded white and the command ends `DONE`, the EOL not consumed,
whatever the colour (R472); in Group 3 2-D it is `UNEXPECTED_EOL` (R470).
The model's choice: log entries 4 and 6. -/
def Obligations.EolAtModeEndsCommand : Prop :=
  ∀ s : State, s.codeSpace = .mode →
    (s.cfgMode = 1#2 → exec .eolAtMode s = .next (s.abort .unexpectedEol)) ∧
      (s.cfgMode = 2#2 → s.output.wf = true → s.row < s.rows → s.unpacked ≤ s.cfgWidth → s.rows * s.cfgWidth ≤ s.outCap →
        ∃ t, exec .eolAtMode s = .next t ∧
          t = { s with output := t.output, bitposOut := s.bitpos, status := .done, faultCode := .none } ∧
          ∀ a, t.output.read a =
            if s.row * s.cfgWidth + s.unpacked ≤ a ∧ a < s.rows * s.cfgWidth then s.byteOf .white else s.output.read a)

/-! ### Rows -/

/-- `LeadingEOL` at the start of a Group 3 row (R464): at least 11 zeros, then a one that lies inside the buffer; with no such form the
fetch finds no word. -/
def Obligations.LeadingEolIsRecognised : Prop :=
  ∀ s : State, s.codeSpace = .rowStart →
    let eol := fun z : Nat => 11 ≤ z ∧ s.bitpos + z < 8 * s.inLen ∧ (∀ i, i < z → s.streamBit (s.bitpos + i) = false) ∧
      s.streamBit (s.bitpos + z) = true
    (∀ z, s.fetch = .ok (.leol z) ↔ eol z) ∧ (s.fetch = .error .noLeadingEol ↔ ∀ z, ¬ eol z)

/-- A leading EOL (R465, R469): it is consumed whole; in Group 3 1-D `EOL_SEEN` is set and the row begins white, or ends at once when
`WIDTH = 0`; in Group 3 2-D the tag follows.
The model's choice: log entries 5, 6 and 10, and 9 (`RUN_ACC` becomes 0 in this step). -/
def Obligations.LeadingEolIsConsumed : Prop :=
  ∀ (z : Nat) (s : State), s.codeSpace = .rowStart →
    (s.cfgMode = 0#2 → 0 < s.cfgWidth → exec (.leol z) s = .next { s with
      bitpos := s.bitpos + (z + 1), eolSeen := true, unpacked := 0, color := .white, runAcc := 0, pos := .run }) ∧
    (s.cfgMode = 0#2 → s.cfgWidth = 0 → exec (.leol z) s = .next { s with
      bitpos := s.bitpos + (z + 1), eolSeen := true, unpacked := 0, color := .white, ref := .row s.row, row := s.row + 1,
      pos := .rowStart }) ∧
    (s.cfgMode = 1#2 → exec (.leol z) s = .next { s with bitpos := s.bitpos + (z + 1), pos := .tag })

/-- A Group 3 row without a leading EOL: in 1-D nothing is consumed, `EOL_SEEN` is cleared and the row begins (R465), or ends at once when
`WIDTH = 0`, with its alignment (R466, R475); in 2-D it is `MISSING_EOL` (R469).
The model's choice: log entries 4, 5, 6 and 10, and 9 (`RUN_ACC` becomes 0 in this step). -/
def Obligations.RowWithoutLeadingEol : Prop :=
  ∀ s : State, s.codeSpace = .rowStart → s.cmdStart = false → s.fetch = .error .noLeadingEol →
    (s.cfgMode = 0#2 → 0 < s.cfgWidth → step s = .next { s with
      eolSeen := false, unpacked := 0, color := .white, runAcc := 0, pos := .run }) ∧
    (s.cfgMode = 0#2 → s.cfgWidth = 0 → step s = .next { s with
      bitpos := 8 * ((s.bitpos + 7) / 8), eolSeen := false, unpacked := 0, color := .white,
      ref := .row s.row, row := s.row + 1, pos := .rowStart }) ∧
    (s.cfgMode = 1#2 → step s = .next (s.abort .missingEol))

/-- The tag of a Group 3 2-D row (R470, R471): 1 begins a 1-D row; 0 begins a 2-D row, or faults `MISSING_REFERENCE` when there is no
reference row. A row of `WIDTH = 0` ends at once and becomes the reference (R473, R475).
The model's choice: log entries 4, 5 and 6, and 9 (`RUN_ACC` becomes 0 in the step of TAG1). -/
def Obligations.TagSelectsRow : Prop :=
  ∀ s : State, s.status = .busy → s.cmdStart = false → s.pos = .tag → s.cfgMode = 1#2 →
    (0 < s.cfgWidth → exec .tag1 s = .next { s with
      bitpos := s.bitpos + 1, unpacked := 0, color := .white, runAcc := 0, pos := .run }) ∧
    (s.cfgWidth = 0 → exec .tag1 s = .next { s with
      bitpos := s.bitpos + 1, unpacked := 0, color := .white, ref := .row s.row, row := s.row + 1, pos := .rowStart }) ∧
    (s.ref = .none → exec .tag0 s = .next (s.abort .missingReference)) ∧
    (s.ref ≠ .none → 0 < s.cfgWidth → exec .tag0 s = .next { s with
      bitpos := s.bitpos + 1, a0 := -1, unpacked := 0, color := .white, pos := .mode }) ∧
    (s.ref ≠ .none → s.cfgWidth = 0 → exec .tag0 s = .next { s with
      bitpos := s.bitpos + 1, a0 := -1, unpacked := 0, color := .white, ref := .row s.row, row := s.row + 1, pos := .rowStart })

/-- The head of the row loop where no word is read: a Group 4 row begins with its modes (R463, R420); after the last row the command ends,
`BITPOS_OUT <- BITPOS` and `STATUS <- DONE` (R474, R475).
The model's choice: log entries 5 and 6. -/
def Obligations.RowLoopBeginsOrEnds : Prop :=
  ∀ s : State, s.status = .busy → s.cmdStart = false → s.pos = .rowStart →
    (s.row < s.rows → s.cfgMode = 2#2 → 0 < s.cfgWidth → step s = .next { s with
      a0 := -1, unpacked := 0, color := .white, pos := .mode }) ∧
    (s.row < s.rows → s.cfgMode = 2#2 → s.cfgWidth = 0 → step s = .next { s with
      a0 := -1, unpacked := 0, color := .white, ref := .row s.row, row := s.row + 1, pos := .rowStart }) ∧
    (s.rows ≤ s.row → step s = .next { s with bitposOut := s.bitpos, status := .done, faultCode := .none })

/-! ### Commands and faults -/

/-- A command whose configuration passes the checks begins with the state of R43; nothing else changes.
The model's choice: log entry 6 (the position). -/
def Obligations.CommandBegins : Prop :=
  ∀ (i : Instr) (m : BitVec 2) (r : RefSel) (s : State),
    (i, m, r) ∈ [(Instr.decodeG31d, 0#2, RefSel.none), (.decodeG32d, 1#2, .none), (.decodeG4, 2#2, .imaginary)] →
    s.codeSpace = .command → s.cfgMode = m → s.cfgPhotometric ≤ 1 → s.cfgBps = 1 → s.cfgWidth * (s.cfgSkip + s.cfgReq) ≤ s.outCap →
    exec i s = .next { s with
      bitpos := 0, row := 0, ref := r, a0 := -1, color := .white, unpacked := 0, eolSeen := false, runAcc := 0, hRun1 := 0,
      faultCode := .none, status := .busy, cmdStart := false, pos := .rowStart }

/-- The configuration checks, in their order, each with its fault, for every command word (R460, R493): `UNSUPPORTED_MODE`,
`UNSUPPORTED_PHOTOMETRIC`, `UNSUPPORTED_BITS_PER_SAMPLE`, `OUTPUT_TOO_SMALL`.
The model's choice: log entries 4 and 14. -/
def Obligations.CommandChecksInOrder : Prop :=
  ∀ s : State, s.codeSpace = .command →
    (s.cfgMode = 3#2 → exec .cmdReserved s = .next (s.initDatapath.abort .unsupportedMode)) ∧
    ∀ i m, (i, m) ∈ [(Instr.decodeG31d, 0#2), (.decodeG32d, 1#2), (.decodeG4, 2#2)] → s.cfgMode = m →
      (1 < s.cfgPhotometric → exec i s = .next (s.initDatapath.abort .unsupportedPhotometric)) ∧
      (s.cfgPhotometric ≤ 1 → s.cfgBps ≠ 1 → exec i s = .next (s.initDatapath.abort .unsupportedBitsPerSample)) ∧
      (s.cfgPhotometric ≤ 1 → s.cfgBps = 1 → s.outCap < s.cfgWidth * (s.cfgSkip + s.cfgReq) →
        exec i s = .next (s.initDatapath.abort .outputTooSmall))

/-- A write of `CMD_START` while `BUSY` is ignored, and any other sets `BUSY` and clears `FAULT_CODE` at once, leaving every register and
byte that the host can see as it was (R26, R28).
The model's choice: log entry 7 (the start sequence is the next step). -/
def Obligations.StartWriteSetsBusyOrIsIgnored : Prop :=
  ∀ s : State, (s.status = .busy → hostStart s = s) ∧
    (s.status ≠ .busy → hostStart s = { s with status := .busy, faultCode := .none, cmdStart := true })

/-- The abort (R492, R28): the code and `STATUS = FAULT` are set; the configuration, the input, and the output bytes at and above
`ROWS*WIDTH` survive. The rest is unspecified, and nothing is said of it.
The model's choice: log entries 4 and 14. -/
def Obligations.AbortKeepsWhatSurvives : Prop :=
  ∀ (code : FaultCode) (s : State), s.output.wf = true →
    (s.abort code).faultCode = code ∧ (s.abort code).status = .fault ∧ (s.abort code).input = s.input ∧
      (s.abort code).cfgMode = s.cfgMode ∧ (s.abort code).cfgLsbFirst = s.cfgLsbFirst ∧
      (s.abort code).cfgPhotometric = s.cfgPhotometric ∧ (s.abort code).cfgBps = s.cfgBps ∧
      (s.abort code).cfgWidth = s.cfgWidth ∧ (s.abort code).cfgSkip = s.cfgSkip ∧ (s.abort code).cfgReq = s.cfgReq ∧
      (s.abort code).inLen = s.inLen ∧ (s.abort code).outCap = s.outCap ∧ (s.abort code).output.wf = true ∧
      ∀ a, s.rows * s.cfgWidth ≤ a → (s.abort code).output.read a = s.output.read a

/-- A hardware reset (R531) makes the block idle and leaves the buffers; only a reset while `BUSY` touches the output, and only below
`ROWS*WIDTH`.
The model's choice: log entries 1, 2 and 15. -/
def Obligations.HardResetLeavesBuffers : Prop :=
  ∀ s : State, s.output.wf = true →
    (hardReset s).status = .idle ∧ (hardReset s).faultCode = .none ∧ (hardReset s).bitposOut = 0 ∧
      (hardReset s).input = s.input ∧ (s.status ≠ .busy → (hardReset s).output = s.output) ∧
      ∀ a, s.rows * s.cfgWidth ≤ a → (hardReset s).output.read a = s.output.read a

/-! ### Frames -/

/-- What a run-length word leaves unchanged when it does not fault: the configuration, the input, `EOL_SEEN`, `B1`, `B2`, `A1`;
`STATUS`, `FAULT_CODE` and `BITPOS_OUT` but for an EOL word; `ROW` and `REF` while the row is not complete; the position, `COLOR` and
`UNPACKED` but for a terminating word; `COLOR` in a Horizontal mode, `UNPACKED` in its first run; `A0` but for its second run, `H_RUN1` but
for its first.
The model's choice: log entries 6 and 9. -/
def Obligations.RunWordRegisterFrame : Prop :=
  ∀ (c : Colour) (e : RunEntry) (s t : State), e ∈ runTable c → exec e.instr s = .next t → t.status ≠ .fault →
    t.cfgMode = s.cfgMode ∧ t.cfgLsbFirst = s.cfgLsbFirst ∧ t.cfgPhotometric = s.cfgPhotometric ∧ t.cfgBps = s.cfgBps ∧
      t.cfgWidth = s.cfgWidth ∧ t.cfgSkip = s.cfgSkip ∧ t.cfgReq = s.cfgReq ∧ t.inLen = s.inLen ∧ t.outCap = s.outCap ∧
      t.cmdStart = s.cmdStart ∧ t.input = s.input ∧ t.eolSeen = s.eolSeen ∧ t.b1 = s.b1 ∧ t.b2 = s.b2 ∧ t.a1 = s.a1 ∧
      (e.kind ≠ .endOfLine → t.status = s.status ∧ t.faultCode = s.faultCode ∧ t.bitposOut = s.bitposOut) ∧
      (e.kind ≠ .terminating → t.row = s.row ∧ t.ref = s.ref ∧ t.pos = s.pos ∧ t.color = s.color ∧ t.unpacked = s.unpacked) ∧
      (t.unpacked < s.cfgWidth → t.row = s.row ∧ t.ref = s.ref) ∧ (s.pos ≠ .run → t.color = s.color) ∧
      (s.pos = .hRun1 → t.unpacked = s.unpacked) ∧ (s.pos ≠ .hRun2 → t.a0 = s.a0) ∧ (s.pos ≠ .hRun1 → t.hRun1 = s.hRun1)

/-- Every byte of the output that a run-length word does not store to reads as before, when the word does not fault. A makeup word and the
first run of a Horizontal mode store nothing; a finished run stores from `ROW*WIDTH + UNPACKED` on, a Horizontal mode both its runs; the
pad of R468 stores to the end of the row.
The model's choice: log entry 6. -/
def Obligations.RunWordMemoryFrame : Prop :=
  ∀ (c : Colour) (e : RunEntry) (s t : State) (a : Nat), e ∈ runTable c → s.output.wf = true → exec e.instr s = .next t →
    t.status ≠ .fault →
    let base := s.row * s.cfgWidth + s.unpacked
    let stored := match e.kind with
      | .makeup => 0
      | .endOfLine => s.cfgWidth - s.unpacked
      | .terminating =>
        if s.pos = .hRun1 then 0
        else if s.pos = .hRun2 then s.hRun1 + (s.runAcc + e.runLength)
        else s.runAcc + e.runLength
    (a < base ∨ base + stored ≤ a) → t.output.read a = s.output.read a

/-- What a mode word leaves unchanged when it does not fault, registers and output bytes: `BITPOS_OUT` and `STATUS` but for the EOL,
`EOL_SEEN` and `H_RUN1` always; `COLOR` and `A1` for P, H and the EOL; `B2` but for P, `RUN_ACC` but for H; `ROW` and `REF` while the row
is not complete; every byte outside those that the word stores to, which start at `ROW*WIDTH + UNPACKED` and end at the target:
`B1 + d`, `B2`, nothing for H, the end of the image for the EOFB.
The model's choice: log entries 6 and 9. -/
def Obligations.ModeWordFrame : Prop :=
  ∀ (i : Instr) (target : State → Nat) (s t : State) (a : Nat),
    ((i = .p ∧ target = fun s => s.row * s.cfgWidth + s.findB2 (s.findB1 s.a0 s.color)) ∨
      (i = .h ∧ target = fun s => s.row * s.cfgWidth + s.unpacked) ∨
      (i = .eolAtMode ∧ target = fun s => s.rows * s.cfgWidth) ∨
      (∃ d : Int, (i, d) ∈ [(Instr.v0, (0 : Int)), (.vr1, 1), (.vr2, 2), (.vr3, 3), (.vl1, -1), (.vl2, -2), (.vl3, -3)] ∧
        target = fun s => s.row * s.cfgWidth + (((s.findB1 s.a0 s.color : Nat) : Int) + d).toNat)) →
    s.output.wf = true → s.row < s.rows → s.unpacked ≤ s.cfgWidth → exec i s = .next t → t.status ≠ .fault →
    t.cfgMode = s.cfgMode ∧ t.cfgLsbFirst = s.cfgLsbFirst ∧ t.cfgPhotometric = s.cfgPhotometric ∧ t.cfgBps = s.cfgBps ∧
      t.cfgWidth = s.cfgWidth ∧ t.cfgSkip = s.cfgSkip ∧ t.cfgReq = s.cfgReq ∧ t.inLen = s.inLen ∧ t.outCap = s.outCap ∧
      t.cmdStart = s.cmdStart ∧ t.input = s.input ∧ t.eolSeen = s.eolSeen ∧ t.hRun1 = s.hRun1 ∧
      (i ≠ .eolAtMode → t.status = s.status ∧ t.faultCode = s.faultCode ∧ t.bitposOut = s.bitposOut) ∧
      ((i = .p ∨ i = .h ∨ i = .eolAtMode) → t.color = s.color ∧ t.a1 = s.a1) ∧
      ((i = .h ∨ i = .eolAtMode) → t.row = s.row ∧ t.ref = s.ref ∧ t.unpacked = s.unpacked ∧ t.a0 = s.a0) ∧
      (i = .eolAtMode → t.bitpos = s.bitpos ∧ t.b1 = s.b1 ∧ t.pos = s.pos) ∧
      (i ≠ .p → t.b2 = s.b2) ∧ (i ≠ .h → t.runAcc = s.runAcc) ∧ (t.unpacked < s.cfgWidth → t.row = s.row ∧ t.ref = s.ref) ∧
      ((a < s.row * s.cfgWidth + s.unpacked ∨ target s ≤ a) → t.output.read a = s.output.read a)

/-- What LEOL and the tags leave unchanged when they do not fault: every byte of the output, and every register but `BITPOS`, the row's
start registers, the position, and, where a row of `WIDTH = 0` ends at once, `ROW` and `REF`.
The model's choice: log entries 6 and 9. -/
def Obligations.RowWordFrame : Prop :=
  ∀ (i : Instr) (s t : State), (i = .tag1 ∨ i = .tag0 ∨ ∃ z, i = .leol z) → exec i s = .next t → t.status ≠ .fault →
    t.output = s.output ∧ t.input = s.input ∧
      t.cfgMode = s.cfgMode ∧ t.cfgLsbFirst = s.cfgLsbFirst ∧ t.cfgPhotometric = s.cfgPhotometric ∧ t.cfgBps = s.cfgBps ∧
      t.cfgWidth = s.cfgWidth ∧ t.cfgSkip = s.cfgSkip ∧ t.cfgReq = s.cfgReq ∧ t.inLen = s.inLen ∧ t.outCap = s.outCap ∧
      t.cmdStart = s.cmdStart ∧ t.status = s.status ∧ t.faultCode = s.faultCode ∧ t.bitposOut = s.bitposOut ∧
      t.hRun1 = s.hRun1 ∧ t.b1 = s.b1 ∧ t.b2 = s.b2 ∧ t.a1 = s.a1 ∧
      (0 < s.cfgWidth → t.row = s.row ∧ t.ref = s.ref) ∧ (i ≠ .tag0 → t.a0 = s.a0) ∧
      ((i = .tag1 ∨ i = .tag0) → t.eolSeen = s.eolSeen)

/-! ### The host -/

/-- From the write of `CMD_START` on until `DONE` or `FAULT` no configuration write, buffer write or result read is left to the host; it can
still read `STATUS`, which is `BUSY`, and read back the configuration, and a further write of `CMD_START` is ignored (R26, R77, R80, R499,
R532, R533). A hardware reset stays open to it (R531); HardResetLeavesBuffers says what that does.
The model's choice: log entries 7, 12 and 15. -/
def Obligations.HostWaitsWhileBusy : Prop :=
  ∀ (s t : State) (v : ConfigValues) (bytes : List Byte) (a : Nat) (b : Byte),
    t = hostStart s ∨ (t = s ∧ s.status = .busy) →
    hostReadStatus t = .busy ∧ hostConfigure v t = none ∧ hostLoadInput bytes t = none ∧ hostWriteOutput a b t = none ∧
      hostReadFaultCode t = none ∧ hostReadBitposOut t = none ∧ hostReadOutput a t = none ∧ hostStart t = t ∧
      hostReadConfig t = hostReadConfig s ∧ hostReadInLen t = s.inLen
end

