-- ==== Sys2Proof/Laws/Memory.lean ====
section
/-! SUPPORT. The laws of a storage space: a read after a write, and the canonical form, which every operation keeps. -/

namespace Sys2Proof.Machine

variable {m m' : Memory} {a b n k low low' : Nat} {v : Byte}

theorem Memory.wfAbove_cons {u : Byte} :
    Memory.wfAbove low ((b, u) :: m) = true ↔ low ≤ b ∧ u ≠ Memory.default ∧ Memory.wfAbove (b + 1) m = true := by
  simp [Memory.wfAbove, and_assoc]

theorem Memory.wfAbove_mono (h : Memory.wfAbove low m = true) (hle : low' ≤ low) : Memory.wfAbove low' m = true := by
  cases m with
  | nil => rfl
  | cons e m =>
    obtain ⟨b, u⟩ := e
    rw [Memory.wfAbove_cons] at h ⊢
    exact ⟨by omega, h.2⟩

theorem Memory.wf_of_wfAbove (h : Memory.wfAbove low m = true) : Memory.wf m = true :=
  Memory.wfAbove_mono h (Nat.zero_le _)

/-- An address below every listed one reads as an unlisted address does. -/
theorem Memory.read_below (h : Memory.wfAbove low m = true) (hlt : a < low) : Memory.read m a = Memory.default := by
  induction m generalizing low with
  | nil => rfl
  | cons e m ih =>
    obtain ⟨b, u⟩ := e
    rw [Memory.wfAbove_cons] at h
    rw [Memory.read, if_neg (by omega)]
    exact ih h.2.2 (by omega)

theorem Memory.wfAbove_entry (h : Memory.wfAbove (a + 1) m = true) (hle : low ≤ a) :
    Memory.wfAbove low (Memory.entry a v m) = true := by
  unfold Memory.entry
  split
  · exact Memory.wfAbove_mono h (by omega)
  · rw [Memory.wfAbove_cons]
    exact ⟨hle, ‹_›, h⟩

theorem Memory.read_entry (h : Memory.wfAbove (a + 1) m = true) :
    Memory.read (Memory.entry a v m) b = if b = a then v else Memory.read m b := by
  unfold Memory.entry
  by_cases hv : v = Memory.default
  · rw [if_pos hv]
    split
    · subst b
      rw [hv]
      exact Memory.read_below h (Nat.lt_succ_self a)
    · rfl
  · rw [if_neg hv, Memory.read]
    by_cases hab : a = b
    · simp [hab]
    · rw [if_neg hab, if_neg (fun hb => hab hb.symm)]

theorem Memory.wfAbove_write (h : Memory.wfAbove low m = true) (hle : low ≤ a) :
    Memory.wfAbove low (Memory.write m a v) = true := by
  induction m generalizing low with
  | nil => exact Memory.wfAbove_entry rfl hle
  | cons e m ih =>
    obtain ⟨b, u⟩ := e
    rw [Memory.wfAbove_cons] at h
    unfold Memory.write
    split
    · exact Memory.wfAbove_entry (Memory.wfAbove_cons.mpr ⟨by omega, h.2⟩) hle
    · split
      · subst a
        exact Memory.wfAbove_entry h.2.2 hle
      · rw [Memory.wfAbove_cons]
        exact ⟨h.1, h.2.1, ih h.2.2 (by omega)⟩

/-- A write keeps the canonical form. -/
theorem Memory.wf_write (h : Memory.wf m = true) : Memory.wf (Memory.write m a v) = true :=
  Memory.wfAbove_write h (Nat.zero_le _)

theorem Memory.read_write_above (h : Memory.wfAbove low m = true) (hle : low ≤ a) :
    Memory.read (Memory.write m a v) b = if b = a then v else Memory.read m b := by
  induction m generalizing low with
  | nil => exact Memory.read_entry rfl
  | cons e m ih =>
    obtain ⟨c, u⟩ := e
    rw [Memory.wfAbove_cons] at h
    unfold Memory.write
    split
    · exact Memory.read_entry (Memory.wfAbove_cons.mpr ⟨by omega, h.2⟩)
    · split
      · subst a
        rw [Memory.read_entry h.2.2, Memory.read]
        by_cases hbc : b = c
        · simp [hbc]
        · rw [if_neg hbc, if_neg hbc, if_neg (fun hc => hbc hc.symm)]
      · rw [Memory.read, Memory.read, ih h.2.2 (by omega)]
        by_cases hcb : c = b
        · rw [if_pos hcb, if_pos hcb, if_neg (by omega)]
        · rw [if_neg hcb, if_neg hcb]

/-- A read after a write gives the value written, and a write leaves every other byte alone. -/
theorem Memory.read_write (h : Memory.wf m = true) :
    Memory.read (Memory.write m a v) b = if b = a then v else Memory.read m b :=
  Memory.read_write_above h (Nat.zero_le _)

@[simp] theorem Memory.fill_zero : Memory.fill m a v 0 = m := rfl

theorem Memory.wf_fill (h : Memory.wf m = true) : Memory.wf (Memory.fill m a v n) = true := by
  induction n with
  | zero => exact h
  | succ n ih => exact Memory.wf_write ih

theorem Memory.wf_load {vs : List Byte} (h : Memory.wf m = true) : Memory.wf (Memory.load m a vs) = true := by
  induction vs generalizing m a with
  | nil => exact h
  | cons v vs ih => exact ih (Memory.wf_write h)

theorem Memory.wf_unspecified (h : Memory.wf m = true) : Memory.wf (Memory.unspecified m n k) = true := by
  induction k with
  | zero => exact h
  | succ k ih => exact Memory.wf_write ih

/-- Leaving the first `k` bytes unspecified leaves every other byte alone. -/
theorem Memory.read_unspecified_above (h : Memory.wf m = true) (hle : k ≤ b) :
    Memory.read (Memory.unspecified m n k) b = Memory.read m b := by
  induction k with
  | zero => rfl
  | succ k ih =>
    rw [Memory.unspecified, Memory.read_write (Memory.wf_unspecified h), if_neg (by omega)]
    exact ih (by omega)

theorem Memory.read_cons {u : Byte} : Memory.read ((b, u) :: m) a = if b = a then u else Memory.read m a := rfl

/-- Canonical memories that read alike are equal. -/
theorem Memory.eq_of_read_eq_above (h : Memory.wfAbove low m = true) (h' : Memory.wfAbove low' m' = true)
    (hr : ∀ a, Memory.read m a = Memory.read m' a) : m = m' := by
  induction m generalizing low low' m' with
  | nil =>
    cases m' with
    | nil => rfl
    | cons e m' =>
      obtain ⟨b, u⟩ := e
      have hb := hr b
      rw [Memory.read_cons, if_pos rfl] at hb
      exact absurd hb.symm (Memory.wfAbove_cons.mp h').2.1
  | cons e m ih =>
    obtain ⟨c, u⟩ := e
    have hc := Memory.wfAbove_cons.mp h
    cases m' with
    | nil =>
      have hb := hr c
      rw [Memory.read_cons, if_pos rfl] at hb
      exact absurd hb hc.2.1
    | cons e' m' =>
      obtain ⟨c', u'⟩ := e'
      have hc' := Memory.wfAbove_cons.mp h'
      have h1 := hr c
      have h2 := hr c'
      rw [Memory.read_cons, if_pos rfl, Memory.read_cons] at h1
      rw [Memory.read_cons, Memory.read_cons, if_pos rfl] at h2
      have hcc : c = c' := by
        by_contra hne
        rw [if_neg (fun hh => hne hh.symm)] at h1
        rw [if_neg hne] at h2
        rcases Nat.lt_or_gt_of_ne hne with hlt | hgt
        · exact hc.2.1 (h1.trans (Memory.read_below hc'.2.2 (by omega)))
        · exact hc'.2.1 (h2.symm.trans (Memory.read_below hc.2.2 (by omega)))
      subst c'
      rw [if_pos rfl] at h1
      have htail : m = m' := by
        refine ih hc.2.2 hc'.2.2 (fun a => ?_)
        have ha := hr a
        rw [Memory.read_cons, Memory.read_cons] at ha
        by_cases hca : c = a
        · subst a
          rw [Memory.read_below hc.2.2 (Nat.lt_succ_self c), Memory.read_below hc'.2.2 (Nat.lt_succ_self c)]
        · rwa [if_neg hca, if_neg hca] at ha
      rw [h1, htail]

theorem Memory.eq_of_read_eq (h : Memory.wf m = true) (h' : Memory.wf m' = true)
    (hr : ∀ a, Memory.read m a = Memory.read m' a) : m = m' :=
  Memory.eq_of_read_eq_above h h' hr

end Sys2Proof.Machine
end

