-- ==== Sys2Proof/Laws/State.lean ====
section
/-! SUPPORT. One lemma per field per named update of the state, true by rfl, so that no proof unfolds a record update; and the derived
values that an update leaves alone. The free values after an abort have no lemma: nothing is known of them. -/

namespace Sys2Proof.Machine

variable (s : State)

@[simp] theorem State.advance_cfgMode (n : Nat) : (s.advance n).cfgMode = s.cfgMode := rfl
@[simp] theorem State.advance_cfgLsbFirst (n : Nat) : (s.advance n).cfgLsbFirst = s.cfgLsbFirst := rfl
@[simp] theorem State.advance_cfgPhotometric (n : Nat) : (s.advance n).cfgPhotometric = s.cfgPhotometric := rfl
@[simp] theorem State.advance_cfgBps (n : Nat) : (s.advance n).cfgBps = s.cfgBps := rfl
@[simp] theorem State.advance_cfgWidth (n : Nat) : (s.advance n).cfgWidth = s.cfgWidth := rfl
@[simp] theorem State.advance_cfgSkip (n : Nat) : (s.advance n).cfgSkip = s.cfgSkip := rfl
@[simp] theorem State.advance_cfgReq (n : Nat) : (s.advance n).cfgReq = s.cfgReq := rfl
@[simp] theorem State.advance_inLen (n : Nat) : (s.advance n).inLen = s.inLen := rfl
@[simp] theorem State.advance_outCap (n : Nat) : (s.advance n).outCap = s.outCap := rfl
@[simp] theorem State.advance_cmdStart (n : Nat) : (s.advance n).cmdStart = s.cmdStart := rfl
@[simp] theorem State.advance_status (n : Nat) : (s.advance n).status = s.status := rfl
@[simp] theorem State.advance_faultCode (n : Nat) : (s.advance n).faultCode = s.faultCode := rfl
@[simp] theorem State.advance_bitposOut (n : Nat) : (s.advance n).bitposOut = s.bitposOut := rfl
@[simp] theorem State.advance_bitpos (n : Nat) : (s.advance n).bitpos = s.bitpos + n := rfl
@[simp] theorem State.advance_row (n : Nat) : (s.advance n).row = s.row := rfl
@[simp] theorem State.advance_a0 (n : Nat) : (s.advance n).a0 = s.a0 := rfl
@[simp] theorem State.advance_color (n : Nat) : (s.advance n).color = s.color := rfl
@[simp] theorem State.advance_unpacked (n : Nat) : (s.advance n).unpacked = s.unpacked := rfl
@[simp] theorem State.advance_ref (n : Nat) : (s.advance n).ref = s.ref := rfl
@[simp] theorem State.advance_eolSeen (n : Nat) : (s.advance n).eolSeen = s.eolSeen := rfl
@[simp] theorem State.advance_runAcc (n : Nat) : (s.advance n).runAcc = s.runAcc := rfl
@[simp] theorem State.advance_hRun1 (n : Nat) : (s.advance n).hRun1 = s.hRun1 := rfl
@[simp] theorem State.advance_b1 (n : Nat) : (s.advance n).b1 = s.b1 := rfl
@[simp] theorem State.advance_b2 (n : Nat) : (s.advance n).b2 = s.b2 := rfl
@[simp] theorem State.advance_a1 (n : Nat) : (s.advance n).a1 = s.a1 := rfl
@[simp] theorem State.advance_pos (n : Nat) : (s.advance n).pos = s.pos := rfl
@[simp] theorem State.advance_input (n : Nat) : (s.advance n).input = s.input := rfl
@[simp] theorem State.advance_output (n : Nat) : (s.advance n).output = s.output := rfl
@[simp] theorem State.advance_freeCount (n : Nat) : (s.advance n).freeCount = s.freeCount := rfl
@[simp] theorem State.advance_rows (n : Nat) : (s.advance n).rows = s.rows := rfl
@[simp] theorem State.advance_command (n : Nat) : (s.advance n).command = s.command := rfl
@[simp] theorem State.advance_byteOf (n : Nat) (c' : Colour) : (s.advance n).byteOf c' = s.byteOf c' := rfl

@[simp] theorem State.alignByte_cfgMode : s.alignByte.cfgMode = s.cfgMode := rfl
@[simp] theorem State.alignByte_cfgLsbFirst : s.alignByte.cfgLsbFirst = s.cfgLsbFirst := rfl
@[simp] theorem State.alignByte_cfgPhotometric : s.alignByte.cfgPhotometric = s.cfgPhotometric := rfl
@[simp] theorem State.alignByte_cfgBps : s.alignByte.cfgBps = s.cfgBps := rfl
@[simp] theorem State.alignByte_cfgWidth : s.alignByte.cfgWidth = s.cfgWidth := rfl
@[simp] theorem State.alignByte_cfgSkip : s.alignByte.cfgSkip = s.cfgSkip := rfl
@[simp] theorem State.alignByte_cfgReq : s.alignByte.cfgReq = s.cfgReq := rfl
@[simp] theorem State.alignByte_inLen : s.alignByte.inLen = s.inLen := rfl
@[simp] theorem State.alignByte_outCap : s.alignByte.outCap = s.outCap := rfl
@[simp] theorem State.alignByte_cmdStart : s.alignByte.cmdStart = s.cmdStart := rfl
@[simp] theorem State.alignByte_status : s.alignByte.status = s.status := rfl
@[simp] theorem State.alignByte_faultCode : s.alignByte.faultCode = s.faultCode := rfl
@[simp] theorem State.alignByte_bitposOut : s.alignByte.bitposOut = s.bitposOut := rfl
@[simp] theorem State.alignByte_bitpos : s.alignByte.bitpos = 8 * ((s.bitpos + 7) / 8) := rfl
@[simp] theorem State.alignByte_row : s.alignByte.row = s.row := rfl
@[simp] theorem State.alignByte_a0 : s.alignByte.a0 = s.a0 := rfl
@[simp] theorem State.alignByte_color : s.alignByte.color = s.color := rfl
@[simp] theorem State.alignByte_unpacked : s.alignByte.unpacked = s.unpacked := rfl
@[simp] theorem State.alignByte_ref : s.alignByte.ref = s.ref := rfl
@[simp] theorem State.alignByte_eolSeen : s.alignByte.eolSeen = s.eolSeen := rfl
@[simp] theorem State.alignByte_runAcc : s.alignByte.runAcc = s.runAcc := rfl
@[simp] theorem State.alignByte_hRun1 : s.alignByte.hRun1 = s.hRun1 := rfl
@[simp] theorem State.alignByte_b1 : s.alignByte.b1 = s.b1 := rfl
@[simp] theorem State.alignByte_b2 : s.alignByte.b2 = s.b2 := rfl
@[simp] theorem State.alignByte_a1 : s.alignByte.a1 = s.a1 := rfl
@[simp] theorem State.alignByte_pos : s.alignByte.pos = s.pos := rfl
@[simp] theorem State.alignByte_input : s.alignByte.input = s.input := rfl
@[simp] theorem State.alignByte_output : s.alignByte.output = s.output := rfl
@[simp] theorem State.alignByte_freeCount : s.alignByte.freeCount = s.freeCount := rfl
@[simp] theorem State.alignByte_rows : s.alignByte.rows = s.rows := rfl
@[simp] theorem State.alignByte_command : s.alignByte.command = s.command := rfl
@[simp] theorem State.alignByte_byteOf (c' : Colour) : s.alignByte.byteOf c' = s.byteOf c' := rfl

@[simp] theorem State.addRun_cfgMode (n r : Nat) : (s.addRun n r).cfgMode = s.cfgMode := rfl
@[simp] theorem State.addRun_cfgLsbFirst (n r : Nat) : (s.addRun n r).cfgLsbFirst = s.cfgLsbFirst := rfl
@[simp] theorem State.addRun_cfgPhotometric (n r : Nat) : (s.addRun n r).cfgPhotometric = s.cfgPhotometric := rfl
@[simp] theorem State.addRun_cfgBps (n r : Nat) : (s.addRun n r).cfgBps = s.cfgBps := rfl
@[simp] theorem State.addRun_cfgWidth (n r : Nat) : (s.addRun n r).cfgWidth = s.cfgWidth := rfl
@[simp] theorem State.addRun_cfgSkip (n r : Nat) : (s.addRun n r).cfgSkip = s.cfgSkip := rfl
@[simp] theorem State.addRun_cfgReq (n r : Nat) : (s.addRun n r).cfgReq = s.cfgReq := rfl
@[simp] theorem State.addRun_inLen (n r : Nat) : (s.addRun n r).inLen = s.inLen := rfl
@[simp] theorem State.addRun_outCap (n r : Nat) : (s.addRun n r).outCap = s.outCap := rfl
@[simp] theorem State.addRun_cmdStart (n r : Nat) : (s.addRun n r).cmdStart = s.cmdStart := rfl
@[simp] theorem State.addRun_status (n r : Nat) : (s.addRun n r).status = s.status := rfl
@[simp] theorem State.addRun_faultCode (n r : Nat) : (s.addRun n r).faultCode = s.faultCode := rfl
@[simp] theorem State.addRun_bitposOut (n r : Nat) : (s.addRun n r).bitposOut = s.bitposOut := rfl
@[simp] theorem State.addRun_bitpos (n r : Nat) : (s.addRun n r).bitpos = s.bitpos + n := rfl
@[simp] theorem State.addRun_row (n r : Nat) : (s.addRun n r).row = s.row := rfl
@[simp] theorem State.addRun_a0 (n r : Nat) : (s.addRun n r).a0 = s.a0 := rfl
@[simp] theorem State.addRun_color (n r : Nat) : (s.addRun n r).color = s.color := rfl
@[simp] theorem State.addRun_unpacked (n r : Nat) : (s.addRun n r).unpacked = s.unpacked := rfl
@[simp] theorem State.addRun_ref (n r : Nat) : (s.addRun n r).ref = s.ref := rfl
@[simp] theorem State.addRun_eolSeen (n r : Nat) : (s.addRun n r).eolSeen = s.eolSeen := rfl
@[simp] theorem State.addRun_runAcc (n r : Nat) : (s.addRun n r).runAcc = s.runAcc + r := rfl
@[simp] theorem State.addRun_hRun1 (n r : Nat) : (s.addRun n r).hRun1 = s.hRun1 := rfl
@[simp] theorem State.addRun_b1 (n r : Nat) : (s.addRun n r).b1 = s.b1 := rfl
@[simp] theorem State.addRun_b2 (n r : Nat) : (s.addRun n r).b2 = s.b2 := rfl
@[simp] theorem State.addRun_a1 (n r : Nat) : (s.addRun n r).a1 = s.a1 := rfl
@[simp] theorem State.addRun_pos (n r : Nat) : (s.addRun n r).pos = s.pos := rfl
@[simp] theorem State.addRun_input (n r : Nat) : (s.addRun n r).input = s.input := rfl
@[simp] theorem State.addRun_output (n r : Nat) : (s.addRun n r).output = s.output := rfl
@[simp] theorem State.addRun_freeCount (n r : Nat) : (s.addRun n r).freeCount = s.freeCount := rfl
@[simp] theorem State.addRun_rows (n r : Nat) : (s.addRun n r).rows = s.rows := rfl
@[simp] theorem State.addRun_command (n r : Nat) : (s.addRun n r).command = s.command := rfl
@[simp] theorem State.addRun_byteOf (n r : Nat) (c' : Colour) : (s.addRun n r).byteOf c' = s.byteOf c' := rfl

@[simp] theorem State.enterRun_cfgMode (p : Pos) : (s.enterRun p).cfgMode = s.cfgMode := rfl
@[simp] theorem State.enterRun_cfgLsbFirst (p : Pos) : (s.enterRun p).cfgLsbFirst = s.cfgLsbFirst := rfl
@[simp] theorem State.enterRun_cfgPhotometric (p : Pos) : (s.enterRun p).cfgPhotometric = s.cfgPhotometric := rfl
@[simp] theorem State.enterRun_cfgBps (p : Pos) : (s.enterRun p).cfgBps = s.cfgBps := rfl
@[simp] theorem State.enterRun_cfgWidth (p : Pos) : (s.enterRun p).cfgWidth = s.cfgWidth := rfl
@[simp] theorem State.enterRun_cfgSkip (p : Pos) : (s.enterRun p).cfgSkip = s.cfgSkip := rfl
@[simp] theorem State.enterRun_cfgReq (p : Pos) : (s.enterRun p).cfgReq = s.cfgReq := rfl
@[simp] theorem State.enterRun_inLen (p : Pos) : (s.enterRun p).inLen = s.inLen := rfl
@[simp] theorem State.enterRun_outCap (p : Pos) : (s.enterRun p).outCap = s.outCap := rfl
@[simp] theorem State.enterRun_cmdStart (p : Pos) : (s.enterRun p).cmdStart = s.cmdStart := rfl
@[simp] theorem State.enterRun_status (p : Pos) : (s.enterRun p).status = s.status := rfl
@[simp] theorem State.enterRun_faultCode (p : Pos) : (s.enterRun p).faultCode = s.faultCode := rfl
@[simp] theorem State.enterRun_bitposOut (p : Pos) : (s.enterRun p).bitposOut = s.bitposOut := rfl
@[simp] theorem State.enterRun_bitpos (p : Pos) : (s.enterRun p).bitpos = s.bitpos := rfl
@[simp] theorem State.enterRun_row (p : Pos) : (s.enterRun p).row = s.row := rfl
@[simp] theorem State.enterRun_a0 (p : Pos) : (s.enterRun p).a0 = s.a0 := rfl
@[simp] theorem State.enterRun_color (p : Pos) : (s.enterRun p).color = s.color := rfl
@[simp] theorem State.enterRun_unpacked (p : Pos) : (s.enterRun p).unpacked = s.unpacked := rfl
@[simp] theorem State.enterRun_ref (p : Pos) : (s.enterRun p).ref = s.ref := rfl
@[simp] theorem State.enterRun_eolSeen (p : Pos) : (s.enterRun p).eolSeen = s.eolSeen := rfl
@[simp] theorem State.enterRun_runAcc (p : Pos) : (s.enterRun p).runAcc = 0 := rfl
@[simp] theorem State.enterRun_hRun1 (p : Pos) : (s.enterRun p).hRun1 = s.hRun1 := rfl
@[simp] theorem State.enterRun_b1 (p : Pos) : (s.enterRun p).b1 = s.b1 := rfl
@[simp] theorem State.enterRun_b2 (p : Pos) : (s.enterRun p).b2 = s.b2 := rfl
@[simp] theorem State.enterRun_a1 (p : Pos) : (s.enterRun p).a1 = s.a1 := rfl
@[simp] theorem State.enterRun_pos (p : Pos) : (s.enterRun p).pos = p := rfl
@[simp] theorem State.enterRun_input (p : Pos) : (s.enterRun p).input = s.input := rfl
@[simp] theorem State.enterRun_output (p : Pos) : (s.enterRun p).output = s.output := rfl
@[simp] theorem State.enterRun_freeCount (p : Pos) : (s.enterRun p).freeCount = s.freeCount := rfl
@[simp] theorem State.enterRun_rows (p : Pos) : (s.enterRun p).rows = s.rows := rfl
@[simp] theorem State.enterRun_command (p : Pos) : (s.enterRun p).command = s.command := rfl
@[simp] theorem State.enterRun_byteOf (p : Pos) (c' : Colour) : (s.enterRun p).byteOf c' = s.byteOf c' := rfl

@[simp] theorem State.nextRow_cfgMode : s.nextRow.cfgMode = s.cfgMode := rfl
@[simp] theorem State.nextRow_cfgLsbFirst : s.nextRow.cfgLsbFirst = s.cfgLsbFirst := rfl
@[simp] theorem State.nextRow_cfgPhotometric : s.nextRow.cfgPhotometric = s.cfgPhotometric := rfl
@[simp] theorem State.nextRow_cfgBps : s.nextRow.cfgBps = s.cfgBps := rfl
@[simp] theorem State.nextRow_cfgWidth : s.nextRow.cfgWidth = s.cfgWidth := rfl
@[simp] theorem State.nextRow_cfgSkip : s.nextRow.cfgSkip = s.cfgSkip := rfl
@[simp] theorem State.nextRow_cfgReq : s.nextRow.cfgReq = s.cfgReq := rfl
@[simp] theorem State.nextRow_inLen : s.nextRow.inLen = s.inLen := rfl
@[simp] theorem State.nextRow_outCap : s.nextRow.outCap = s.outCap := rfl
@[simp] theorem State.nextRow_cmdStart : s.nextRow.cmdStart = s.cmdStart := rfl
@[simp] theorem State.nextRow_status : s.nextRow.status = s.status := rfl
@[simp] theorem State.nextRow_faultCode : s.nextRow.faultCode = s.faultCode := rfl
@[simp] theorem State.nextRow_bitposOut : s.nextRow.bitposOut = s.bitposOut := rfl
@[simp] theorem State.nextRow_bitpos : s.nextRow.bitpos = s.bitpos := rfl
@[simp] theorem State.nextRow_row : s.nextRow.row = s.row + 1 := rfl
@[simp] theorem State.nextRow_a0 : s.nextRow.a0 = s.a0 := rfl
@[simp] theorem State.nextRow_color : s.nextRow.color = s.color := rfl
@[simp] theorem State.nextRow_unpacked : s.nextRow.unpacked = s.unpacked := rfl
@[simp] theorem State.nextRow_ref : s.nextRow.ref = s.ref := rfl
@[simp] theorem State.nextRow_eolSeen : s.nextRow.eolSeen = s.eolSeen := rfl
@[simp] theorem State.nextRow_runAcc : s.nextRow.runAcc = s.runAcc := rfl
@[simp] theorem State.nextRow_hRun1 : s.nextRow.hRun1 = s.hRun1 := rfl
@[simp] theorem State.nextRow_b1 : s.nextRow.b1 = s.b1 := rfl
@[simp] theorem State.nextRow_b2 : s.nextRow.b2 = s.b2 := rfl
@[simp] theorem State.nextRow_a1 : s.nextRow.a1 = s.a1 := rfl
@[simp] theorem State.nextRow_pos : s.nextRow.pos = .rowStart := rfl
@[simp] theorem State.nextRow_input : s.nextRow.input = s.input := rfl
@[simp] theorem State.nextRow_output : s.nextRow.output = s.output := rfl
@[simp] theorem State.nextRow_freeCount : s.nextRow.freeCount = s.freeCount := rfl
@[simp] theorem State.nextRow_rows : s.nextRow.rows = s.rows := rfl
@[simp] theorem State.nextRow_command : s.nextRow.command = s.command := rfl
@[simp] theorem State.nextRow_byteOf (c' : Colour) : s.nextRow.byteOf c' = s.byteOf c' := rfl

@[simp] theorem State.finish_cfgMode : s.finish.cfgMode = s.cfgMode := rfl
@[simp] theorem State.finish_cfgLsbFirst : s.finish.cfgLsbFirst = s.cfgLsbFirst := rfl
@[simp] theorem State.finish_cfgPhotometric : s.finish.cfgPhotometric = s.cfgPhotometric := rfl
@[simp] theorem State.finish_cfgBps : s.finish.cfgBps = s.cfgBps := rfl
@[simp] theorem State.finish_cfgWidth : s.finish.cfgWidth = s.cfgWidth := rfl
@[simp] theorem State.finish_cfgSkip : s.finish.cfgSkip = s.cfgSkip := rfl
@[simp] theorem State.finish_cfgReq : s.finish.cfgReq = s.cfgReq := rfl
@[simp] theorem State.finish_inLen : s.finish.inLen = s.inLen := rfl
@[simp] theorem State.finish_outCap : s.finish.outCap = s.outCap := rfl
@[simp] theorem State.finish_cmdStart : s.finish.cmdStart = s.cmdStart := rfl
@[simp] theorem State.finish_status : s.finish.status = .done := rfl
@[simp] theorem State.finish_faultCode : s.finish.faultCode = .none := rfl
@[simp] theorem State.finish_bitposOut : s.finish.bitposOut = s.bitpos := rfl
@[simp] theorem State.finish_bitpos : s.finish.bitpos = s.bitpos := rfl
@[simp] theorem State.finish_row : s.finish.row = s.row := rfl
@[simp] theorem State.finish_a0 : s.finish.a0 = s.a0 := rfl
@[simp] theorem State.finish_color : s.finish.color = s.color := rfl
@[simp] theorem State.finish_unpacked : s.finish.unpacked = s.unpacked := rfl
@[simp] theorem State.finish_ref : s.finish.ref = s.ref := rfl
@[simp] theorem State.finish_eolSeen : s.finish.eolSeen = s.eolSeen := rfl
@[simp] theorem State.finish_runAcc : s.finish.runAcc = s.runAcc := rfl
@[simp] theorem State.finish_hRun1 : s.finish.hRun1 = s.hRun1 := rfl
@[simp] theorem State.finish_b1 : s.finish.b1 = s.b1 := rfl
@[simp] theorem State.finish_b2 : s.finish.b2 = s.b2 := rfl
@[simp] theorem State.finish_a1 : s.finish.a1 = s.a1 := rfl
@[simp] theorem State.finish_pos : s.finish.pos = s.pos := rfl
@[simp] theorem State.finish_input : s.finish.input = s.input := rfl
@[simp] theorem State.finish_output : s.finish.output = s.output := rfl
@[simp] theorem State.finish_freeCount : s.finish.freeCount = s.freeCount := rfl
@[simp] theorem State.finish_rows : s.finish.rows = s.rows := rfl
@[simp] theorem State.finish_command : s.finish.command = s.command := rfl
@[simp] theorem State.finish_byteOf (c' : Colour) : s.finish.byteOf c' = s.byteOf c' := rfl

@[simp] theorem State.refRow_cfgMode : s.refRow.cfgMode = s.cfgMode := rfl
@[simp] theorem State.refRow_cfgLsbFirst : s.refRow.cfgLsbFirst = s.cfgLsbFirst := rfl
@[simp] theorem State.refRow_cfgPhotometric : s.refRow.cfgPhotometric = s.cfgPhotometric := rfl
@[simp] theorem State.refRow_cfgBps : s.refRow.cfgBps = s.cfgBps := rfl
@[simp] theorem State.refRow_cfgWidth : s.refRow.cfgWidth = s.cfgWidth := rfl
@[simp] theorem State.refRow_cfgSkip : s.refRow.cfgSkip = s.cfgSkip := rfl
@[simp] theorem State.refRow_cfgReq : s.refRow.cfgReq = s.cfgReq := rfl
@[simp] theorem State.refRow_inLen : s.refRow.inLen = s.inLen := rfl
@[simp] theorem State.refRow_outCap : s.refRow.outCap = s.outCap := rfl
@[simp] theorem State.refRow_cmdStart : s.refRow.cmdStart = s.cmdStart := rfl
@[simp] theorem State.refRow_status : s.refRow.status = s.status := rfl
@[simp] theorem State.refRow_faultCode : s.refRow.faultCode = s.faultCode := rfl
@[simp] theorem State.refRow_bitposOut : s.refRow.bitposOut = s.bitposOut := rfl
@[simp] theorem State.refRow_bitpos : s.refRow.bitpos = s.bitpos := rfl
@[simp] theorem State.refRow_row : s.refRow.row = s.row := rfl
@[simp] theorem State.refRow_a0 : s.refRow.a0 = s.a0 := rfl
@[simp] theorem State.refRow_color : s.refRow.color = s.color := rfl
@[simp] theorem State.refRow_unpacked : s.refRow.unpacked = s.unpacked := rfl
@[simp] theorem State.refRow_ref : s.refRow.ref = .row s.row := rfl
@[simp] theorem State.refRow_eolSeen : s.refRow.eolSeen = s.eolSeen := rfl
@[simp] theorem State.refRow_runAcc : s.refRow.runAcc = s.runAcc := rfl
@[simp] theorem State.refRow_hRun1 : s.refRow.hRun1 = s.hRun1 := rfl
@[simp] theorem State.refRow_b1 : s.refRow.b1 = s.b1 := rfl
@[simp] theorem State.refRow_b2 : s.refRow.b2 = s.b2 := rfl
@[simp] theorem State.refRow_a1 : s.refRow.a1 = s.a1 := rfl
@[simp] theorem State.refRow_pos : s.refRow.pos = s.pos := rfl
@[simp] theorem State.refRow_input : s.refRow.input = s.input := rfl
@[simp] theorem State.refRow_output : s.refRow.output = s.output := rfl
@[simp] theorem State.refRow_freeCount : s.refRow.freeCount = s.freeCount := rfl
@[simp] theorem State.refRow_rows : s.refRow.rows = s.rows := rfl
@[simp] theorem State.refRow_command : s.refRow.command = s.command := rfl
@[simp] theorem State.refRow_byteOf (c' : Colour) : s.refRow.byteOf c' = s.byteOf c' := rfl

@[simp] theorem State.startWritten_cfgMode : s.startWritten.cfgMode = s.cfgMode := rfl
@[simp] theorem State.startWritten_cfgLsbFirst : s.startWritten.cfgLsbFirst = s.cfgLsbFirst := rfl
@[simp] theorem State.startWritten_cfgPhotometric : s.startWritten.cfgPhotometric = s.cfgPhotometric := rfl
@[simp] theorem State.startWritten_cfgBps : s.startWritten.cfgBps = s.cfgBps := rfl
@[simp] theorem State.startWritten_cfgWidth : s.startWritten.cfgWidth = s.cfgWidth := rfl
@[simp] theorem State.startWritten_cfgSkip : s.startWritten.cfgSkip = s.cfgSkip := rfl
@[simp] theorem State.startWritten_cfgReq : s.startWritten.cfgReq = s.cfgReq := rfl
@[simp] theorem State.startWritten_inLen : s.startWritten.inLen = s.inLen := rfl
@[simp] theorem State.startWritten_outCap : s.startWritten.outCap = s.outCap := rfl
@[simp] theorem State.startWritten_cmdStart : s.startWritten.cmdStart = true := rfl
@[simp] theorem State.startWritten_status : s.startWritten.status = .busy := rfl
@[simp] theorem State.startWritten_faultCode : s.startWritten.faultCode = .none := rfl
@[simp] theorem State.startWritten_bitposOut : s.startWritten.bitposOut = s.bitposOut := rfl
@[simp] theorem State.startWritten_bitpos : s.startWritten.bitpos = s.bitpos := rfl
@[simp] theorem State.startWritten_row : s.startWritten.row = s.row := rfl
@[simp] theorem State.startWritten_a0 : s.startWritten.a0 = s.a0 := rfl
@[simp] theorem State.startWritten_color : s.startWritten.color = s.color := rfl
@[simp] theorem State.startWritten_unpacked : s.startWritten.unpacked = s.unpacked := rfl
@[simp] theorem State.startWritten_ref : s.startWritten.ref = s.ref := rfl
@[simp] theorem State.startWritten_eolSeen : s.startWritten.eolSeen = s.eolSeen := rfl
@[simp] theorem State.startWritten_runAcc : s.startWritten.runAcc = s.runAcc := rfl
@[simp] theorem State.startWritten_hRun1 : s.startWritten.hRun1 = s.hRun1 := rfl
@[simp] theorem State.startWritten_b1 : s.startWritten.b1 = s.b1 := rfl
@[simp] theorem State.startWritten_b2 : s.startWritten.b2 = s.b2 := rfl
@[simp] theorem State.startWritten_a1 : s.startWritten.a1 = s.a1 := rfl
@[simp] theorem State.startWritten_pos : s.startWritten.pos = s.pos := rfl
@[simp] theorem State.startWritten_input : s.startWritten.input = s.input := rfl
@[simp] theorem State.startWritten_output : s.startWritten.output = s.output := rfl
@[simp] theorem State.startWritten_freeCount : s.startWritten.freeCount = s.freeCount := rfl
@[simp] theorem State.startWritten_rows : s.startWritten.rows = s.rows := rfl
@[simp] theorem State.startWritten_command : s.startWritten.command = s.command := rfl
@[simp] theorem State.startWritten_byteOf (c' : Colour) : s.startWritten.byteOf c' = s.byteOf c' := rfl

@[simp] theorem State.initDatapath_cfgMode : s.initDatapath.cfgMode = s.cfgMode := rfl
@[simp] theorem State.initDatapath_cfgLsbFirst : s.initDatapath.cfgLsbFirst = s.cfgLsbFirst := rfl
@[simp] theorem State.initDatapath_cfgPhotometric : s.initDatapath.cfgPhotometric = s.cfgPhotometric := rfl
@[simp] theorem State.initDatapath_cfgBps : s.initDatapath.cfgBps = s.cfgBps := rfl
@[simp] theorem State.initDatapath_cfgWidth : s.initDatapath.cfgWidth = s.cfgWidth := rfl
@[simp] theorem State.initDatapath_cfgSkip : s.initDatapath.cfgSkip = s.cfgSkip := rfl
@[simp] theorem State.initDatapath_cfgReq : s.initDatapath.cfgReq = s.cfgReq := rfl
@[simp] theorem State.initDatapath_inLen : s.initDatapath.inLen = s.inLen := rfl
@[simp] theorem State.initDatapath_outCap : s.initDatapath.outCap = s.outCap := rfl
@[simp] theorem State.initDatapath_cmdStart : s.initDatapath.cmdStart = false := rfl
@[simp] theorem State.initDatapath_status : s.initDatapath.status = .busy := rfl
@[simp] theorem State.initDatapath_faultCode : s.initDatapath.faultCode = .none := rfl
@[simp] theorem State.initDatapath_bitposOut : s.initDatapath.bitposOut = s.bitposOut := rfl
@[simp] theorem State.initDatapath_bitpos : s.initDatapath.bitpos = 0 := rfl
@[simp] theorem State.initDatapath_row : s.initDatapath.row = 0 := rfl
@[simp] theorem State.initDatapath_a0 : s.initDatapath.a0 = -1 := rfl
@[simp] theorem State.initDatapath_color : s.initDatapath.color = .white := rfl
@[simp] theorem State.initDatapath_unpacked : s.initDatapath.unpacked = 0 := rfl
@[simp] theorem State.initDatapath_ref : s.initDatapath.ref = startRef s.command := rfl
@[simp] theorem State.initDatapath_eolSeen : s.initDatapath.eolSeen = false := rfl
@[simp] theorem State.initDatapath_runAcc : s.initDatapath.runAcc = 0 := rfl
@[simp] theorem State.initDatapath_hRun1 : s.initDatapath.hRun1 = 0 := rfl
@[simp] theorem State.initDatapath_b1 : s.initDatapath.b1 = s.b1 := rfl
@[simp] theorem State.initDatapath_b2 : s.initDatapath.b2 = s.b2 := rfl
@[simp] theorem State.initDatapath_a1 : s.initDatapath.a1 = s.a1 := rfl
@[simp] theorem State.initDatapath_pos : s.initDatapath.pos = .rowStart := rfl
@[simp] theorem State.initDatapath_input : s.initDatapath.input = s.input := rfl
@[simp] theorem State.initDatapath_output : s.initDatapath.output = s.output := rfl
@[simp] theorem State.initDatapath_freeCount : s.initDatapath.freeCount = s.freeCount := rfl
@[simp] theorem State.initDatapath_rows : s.initDatapath.rows = s.rows := rfl
@[simp] theorem State.initDatapath_command : s.initDatapath.command = s.command := rfl
@[simp] theorem State.initDatapath_byteOf (c' : Colour) : s.initDatapath.byteOf c' = s.byteOf c' := rfl

@[simp] theorem State.abort_cfgMode (c : FaultCode) : (s.abort c).cfgMode = s.cfgMode := rfl
@[simp] theorem State.abort_cfgLsbFirst (c : FaultCode) : (s.abort c).cfgLsbFirst = s.cfgLsbFirst := rfl
@[simp] theorem State.abort_cfgPhotometric (c : FaultCode) : (s.abort c).cfgPhotometric = s.cfgPhotometric := rfl
@[simp] theorem State.abort_cfgBps (c : FaultCode) : (s.abort c).cfgBps = s.cfgBps := rfl
@[simp] theorem State.abort_cfgWidth (c : FaultCode) : (s.abort c).cfgWidth = s.cfgWidth := rfl
@[simp] theorem State.abort_cfgSkip (c : FaultCode) : (s.abort c).cfgSkip = s.cfgSkip := rfl
@[simp] theorem State.abort_cfgReq (c : FaultCode) : (s.abort c).cfgReq = s.cfgReq := rfl
@[simp] theorem State.abort_inLen (c : FaultCode) : (s.abort c).inLen = s.inLen := rfl
@[simp] theorem State.abort_outCap (c : FaultCode) : (s.abort c).outCap = s.outCap := rfl
@[simp] theorem State.abort_cmdStart (c : FaultCode) : (s.abort c).cmdStart = s.cmdStart := rfl
@[simp] theorem State.abort_status (c : FaultCode) : (s.abort c).status = .fault := rfl
@[simp] theorem State.abort_faultCode (c : FaultCode) : (s.abort c).faultCode = c := rfl
@[simp] theorem State.abort_input (c : FaultCode) : (s.abort c).input = s.input := rfl
@[simp] theorem State.abort_output (c : FaultCode) : (s.abort c).output = s.output.unspecified s.freeCount (min (s.rows * s.cfgWidth) s.outCap) := rfl
@[simp] theorem State.abort_freeCount (c : FaultCode) : (s.abort c).freeCount = s.freeCount + 1 := rfl
@[simp] theorem State.abort_rows (c : FaultCode) : (s.abort c).rows = s.rows := rfl
@[simp] theorem State.abort_command (c : FaultCode) : (s.abort c).command = s.command := rfl
@[simp] theorem State.abort_byteOf (c : FaultCode) (c' : Colour) : (s.abort c).byteOf c' = s.byteOf c' := rfl

end Sys2Proof.Machine
end

