-- ==== Sys2Proof/Laws/Ops.lean ====
section
/-! SUPPORT. For each shared operation one lemma that says once everything it can do. -/

namespace Sys2Proof.Machine

variable {s t : State} {o : Result} {f : State → Result} {c : Colour} {row lo hi : Nat} {code : FaultCode}

/-! ### Sequencing -/

@[simp] theorem andThen_next : andThen (.next s) f = f s := rfl

@[simp] theorem andThen_fault {r : Fault} : andThen (.fault r) f = .fault r := rfl

@[simp] theorem andThen_refused {r : Refusal} : andThen (.refused r) f = .refused r := rfl

theorem andThen_eq_next : andThen o f = .next t ↔ ∃ u, o = .next u ∧ f u = .next t := by
  cases o <;> simp [andThen]

/-! ### The fill -/

/-- The state after a fill. -/
def State.filled (s : State) (row lo hi : Nat) (c : Colour) : State :=
  { s with output := s.output.fill (row * s.cfgWidth + lo) (s.byteOf c) (hi - lo) }

theorem fill_of_fits (h : row * s.cfgWidth + hi ≤ s.outCap) : fill row lo hi c s = .next (s.filled row lo hi c) := by
  unfold fill
  by_cases hlo : hi ≤ lo
  · rw [if_pos hlo, State.filled, Nat.sub_eq_zero_of_le hlo, Memory.fill_zero]
  · rw [if_neg hlo, if_pos h, State.filled]

theorem fill_empty (h : hi ≤ lo) : fill row lo hi c s = .next s := if_pos h

/-- Everything a fill can do: write its bytes, or stop where one of them does not exist. -/
theorem fill_cases (row lo hi : Nat) (c : Colour) (s : State) :
    fill row lo hi c s = .next (s.filled row lo hi c) ∨
      (lo < hi ∧ s.outCap < row * s.cfgWidth + hi ∧ fill row lo hi c s = .fault .writeOutsideOutput) := by
  by_cases h : row * s.cfgWidth + hi ≤ s.outCap
  · exact .inl (fill_of_fits h)
  · by_cases hlo : hi ≤ lo
    · left
      rw [fill_empty hlo, State.filled, Nat.sub_eq_zero_of_le hlo, Memory.fill_zero]
    · exact .inr ⟨by omega, by omega, by simp [fill, hlo, h]⟩

theorem fill_eq_next (h : fill row lo hi c s = .next t) : t = s.filled row lo hi c := by
  rcases fill_cases row lo hi c s with h' | ⟨-, -, h'⟩
  · rw [h'] at h
    exact (Host.Outcome.next.inj h).symm
  · rw [h'] at h
    cases h

theorem filled_wf (h : s.output.wf = true) : (s.filled row lo hi c).output.wf = true :=
  Memory.wf_fill h

/-! ### Abort and completion -/

/-- The abort leaves alone every output byte at or above `ROWS*WIDTH` (spec/60_exceptions.md R492). -/
theorem abort_read_above {a : Nat} (h : s.output.wf = true) (ha : s.rows * s.cfgWidth ≤ a) :
    (s.abort code).output.read a = s.output.read a := by
  rw [State.abort_output]
  exact Memory.read_unspecified_above h (le_trans (min_le_left _ _) ha)

theorem abort_wf (h : s.output.wf = true) : (s.abort code).output.wf = true :=
  Memory.wf_unspecified h

/-- Everything `CheckConfig` can do (spec/47_line_orchestrators.md R460). -/
theorem checkConfig_cases (s : State) :
    (s.cfgMode = 3#2 ∧ s.checkConfig = s.abort .unsupportedMode) ∨
    (s.cfgMode ≠ 3#2 ∧ 1 < s.cfgPhotometric ∧ s.checkConfig = s.abort .unsupportedPhotometric) ∨
    (s.cfgMode ≠ 3#2 ∧ s.cfgPhotometric ≤ 1 ∧ s.cfgBps ≠ 1 ∧ s.checkConfig = s.abort .unsupportedBitsPerSample) ∨
    (s.cfgMode ≠ 3#2 ∧ s.cfgPhotometric ≤ 1 ∧ s.cfgBps = 1 ∧ s.outCap < s.cfgWidth * s.rows ∧
      s.checkConfig = s.abort .outputTooSmall) ∨
    (s.cfgMode ≠ 3#2 ∧ s.cfgPhotometric ≤ 1 ∧ s.cfgBps = 1 ∧ s.cfgWidth * s.rows ≤ s.outCap ∧ s.checkConfig = s) := by
  unfold State.checkConfig
  by_cases h1 : s.cfgMode = 3#2
  · exact .inl ⟨h1, if_pos h1⟩
  · rw [if_neg h1]
    by_cases h2 : s.cfgPhotometric ≠ 0 ∧ s.cfgPhotometric ≠ 1
    · exact .inr (.inl ⟨h1, by omega, if_pos h2⟩)
    · rw [if_neg h2]
      by_cases h3 : s.cfgBps ≠ 1
      · exact .inr (.inr (.inl ⟨h1, by omega, h3, if_pos h3⟩))
      · rw [if_neg h3]
        by_cases h4 : s.outCap < s.cfgWidth * s.rows
        · exact .inr (.inr (.inr (.inl ⟨h1, by omega, not_not.mp h3, h4, if_pos h4⟩)))
        · exact .inr (.inr (.inr (.inr ⟨h1, by omega, not_not.mp h3, by omega, if_neg h4⟩)))

/-- Everything the start sequence can do (spec/10_state.md R26). -/
theorem startCommand_cases {k : Command} (h : startCommand k s = .next t) :
    s.codeSpace = .command ∧ s.command = k ∧ t = s.initDatapath.checkConfig := by
  unfold startCommand at h
  split at h
  · split at h
    · exact ⟨‹_›, ‹_›, (Host.Outcome.next.inj h).symm⟩
    · cases h
  · cases h

/-- The start sequence of the selected command. -/
theorem startCommand_of_space {k : Command} (h : s.codeSpace = .command) (hk : s.command = k) :
    startCommand k s = .next s.initDatapath.checkConfig := by
  unfold startCommand
  rw [if_pos h, if_pos hk]

/-! ### Rows and lines -/

/-- Everything the end of a row can do. -/
theorem endRow_cases (s : State) :
    (s.command = .g31d ∧ s.eolSeen = false ∧ s.endRow = s.alignByte.refRow.nextRow) ∨
    ((s.command = .g31d → s.eolSeen = true) ∧ s.endRow = s.refRow.nextRow) := by
  unfold State.endRow
  cases hc : s.command <;> simp
  cases he : s.eolSeen <;> simp

theorem loop1D_cases (s : State) :
    (s.unpacked < s.cfgWidth ∧ s.loop1D = s.enterRun .run) ∨ (s.cfgWidth ≤ s.unpacked ∧ s.loop1D = s.endRow) := by
  unfold State.loop1D
  by_cases h : s.unpacked < s.cfgWidth
  · exact .inl ⟨h, if_pos h⟩
  · exact .inr ⟨by omega, if_neg h⟩

theorem loop2D_cases (s : State) :
    (s.unpacked < s.cfgWidth ∧ s.loop2D = { s with pos := .mode }) ∨ (s.cfgWidth ≤ s.unpacked ∧ s.loop2D = s.endRow) := by
  unfold State.loop2D
  by_cases h : s.unpacked < s.cfgWidth
  · exact .inl ⟨h, if_pos h⟩
  · exact .inr ⟨by omega, if_neg h⟩

/-- Everything a run can end in that has no terminating code (spec/41_run_length_codes.md R121, spec/47_line_orchestrators.md
R468). -/
theorem runStop_cases (h : runStop code s = .next t) :
    (s.toleratesRunStop = false ∧ t = s.abort code) ∨
    (s.toleratesRunStop = true ∧ t = (s.filled s.row s.unpacked s.cfgWidth s.color).finish) := by
  unfold runStop at h
  cases hT : s.toleratesRunStop <;> rw [hT] at h
  · exact .inl ⟨rfl, (Host.Outcome.next.inj h).symm⟩
  · obtain ⟨u, hu, ht⟩ := andThen_eq_next.mp h
    rw [fill_eq_next hu] at ht
    exact .inr ⟨rfl, (Host.Outcome.next.inj ht).symm⟩

/-- Everything a finished run of a 1-D row can do (spec/45_one_dimensional.md R401, R402). -/
theorem endRun1D_cases (h : endRun1D s = .next t) :
    (s.cfgWidth < s.unpacked + s.runAcc ∧ t = s.abort .overshoot) ∨
    (s.unpacked + s.runAcc ≤ s.cfgWidth ∧
      t = { s.filled s.row s.unpacked (s.unpacked + s.runAcc) s.color with
        unpacked := s.unpacked + s.runAcc, color := s.color.opp }.loop1D) := by
  unfold endRun1D at h
  split at h
  · exact .inl ⟨‹_›, (Host.Outcome.next.inj h).symm⟩
  · obtain ⟨u, hu, ht⟩ := andThen_eq_next.mp h
    rw [fill_eq_next hu] at ht
    exact .inr ⟨by omega, (Host.Outcome.next.inj ht).symm⟩

/-- Everything the second run of a Horizontal mode can do (spec/46_two_dimensional.md R423). -/
theorem endHRun2_cases (h : endHRun2 s = .next t) :
    (s.cfgWidth < s.unpacked + s.hRun1 + s.runAcc ∧ t = s.abort .overshoot) ∨
    (s.unpacked + s.hRun1 + s.runAcc ≤ s.cfgWidth ∧
      t = { (s.filled s.row s.unpacked (s.unpacked + s.hRun1) s.color).filled s.row (s.unpacked + s.hRun1)
          (s.unpacked + s.hRun1 + s.runAcc) s.color.opp with
        unpacked := s.unpacked + s.hRun1 + s.runAcc
        a0 := ((s.unpacked + s.hRun1 + s.runAcc : Nat) : Int) }.loop2D) := by
  unfold endHRun2 at h
  split at h
  · exact .inl ⟨‹_›, (Host.Outcome.next.inj h).symm⟩
  · obtain ⟨u, hu, ht⟩ := andThen_eq_next.mp h
    rw [fill_eq_next hu] at ht
    obtain ⟨v, hv, ht⟩ := andThen_eq_next.mp ht
    rw [fill_eq_next hv] at ht
    exact .inr ⟨by omega, (Host.Outcome.next.inj ht).symm⟩

/-- Everything a run-length word can do (spec/41_run_length_codes.md R121). -/
theorem runWord_cases {n run : Nat} {k : RunKind} (h : runWord c n run k s = .next t) :
    s.codeSpace = runSpace c ∧
      ((k = .makeup ∧ t = s.addRun n run) ∨ (k = .terminating ∧ endRun (s.addRun n run) = .next t) ∨
        (k = .endOfLine ∧ runStop .unexpectedEol s = .next t)) := by
  unfold runWord at h
  split at h
  · refine ⟨‹_›, ?_⟩
    cases k with
    | makeup => exact .inl ⟨rfl, (Host.Outcome.next.inj h).symm⟩
    | terminating => exact .inr (.inl ⟨rfl, h⟩)
    | endOfLine => exact .inr (.inr ⟨rfl, h⟩)
  · cases h

/-- A run-length word in its own code space. -/
theorem runWord_of_space {n run : Nat} {k : RunKind} (h : s.codeSpace = runSpace c) :
    runWord c n run k s = match k with
      | .makeup => .next (s.addRun n run)
      | .terminating => endRun (s.addRun n run)
      | .endOfLine => runStop .unexpectedEol s := if_pos h

/-! ### Modes -/

/-- Everything a mode word can do before its mode (spec/46_two_dimensional.md R420). -/
theorem modeWord_cases {n : Nat} (h : modeWord n f s = .next t) :
    s.codeSpace = .mode ∧ s.refProblem = none ∧
      f { s.advance n with b1 := ((s.findB1 s.a0 s.color : Nat) : Int) } = .next t := by
  unfold modeWord at h
  split at h
  · split at h
    · cases h
    · exact ⟨‹_›, ‹_›, h⟩
  · cases h

/-- A mode word at a mode position of a row that has a reference. -/
theorem modeWord_of_space {n : Nat} (h : s.codeSpace = .mode) (hr : s.refProblem = none) :
    modeWord n f s = f { s.advance n with b1 := ((s.findB1 s.a0 s.color : Nat) : Int) } := by
  unfold modeWord
  rw [if_pos h, hr]

/-- Everything a Vertical mode can do (R424). -/
theorem vertical_cases {d : Int} (h : vertical d s = .next t) :
    ((s.cfgWidth : Int) < s.b1 + d ∧ t = s.abort .overshoot) ∨
    (s.b1 + d ≤ s.cfgWidth ∧ s.b1 + d < s.unpacked ∧ t = s.abort .negativeRun) ∨
    (s.b1 + d ≤ s.cfgWidth ∧ (s.unpacked : Int) ≤ s.b1 + d ∧
      t = { s.filled s.row s.unpacked (s.b1 + d).toNat s.color with
        a1 := s.b1 + d, unpacked := (s.b1 + d).toNat, a0 := s.b1 + d, color := s.color.opp }.loop2D) := by
  unfold vertical at h
  split at h
  · exact .inl ⟨‹_›, (Host.Outcome.next.inj h).symm⟩
  · split at h
    · exact .inr (.inl ⟨by omega, ‹_›, (Host.Outcome.next.inj h).symm⟩)
    · obtain ⟨u, hu, ht⟩ := andThen_eq_next.mp h
      rw [fill_eq_next hu] at ht
      exact .inr (.inr ⟨by omega, by omega, (Host.Outcome.next.inj ht).symm⟩)

/-- Everything a Pass can do (R422). -/
theorem pass_cases (h : pass s = .next t) :
    t = { s.filled s.row s.unpacked (s.findB2 s.b1) s.color with
      b2 := ((s.findB2 s.b1 : Nat) : Int), unpacked := s.findB2 s.b1, a0 := ((s.findB2 s.b1 : Nat) : Int) }.loop2D := by
  obtain ⟨u, hu, ht⟩ := andThen_eq_next.mp h
  rw [fill_eq_next hu] at ht
  exact (Host.Outcome.next.inj ht).symm

/-- Everything the EOFB pad can do (spec/47_line_orchestrators.md R472). -/
theorem padEofb_cases (h : padEofb s = .next t) :
    t = ((s.filled s.row s.unpacked s.cfgWidth .white).filled 0 ((s.row + 1) * s.cfgWidth) (s.rows * s.cfgWidth)
      .white).finish := by
  obtain ⟨u, hu, ht⟩ := andThen_eq_next.mp h
  rw [fill_eq_next hu] at ht
  obtain ⟨v, hv, ht⟩ := andThen_eq_next.mp ht
  rw [fill_eq_next hv] at ht
  exact (Host.Outcome.next.inj ht).symm

/-! ### Code spaces (spec/30_encoding.md R92) -/

theorem runSpace_inj {c c' : Colour} (h : runSpace c = runSpace c') : c = c' := by
  cases c <;> cases c' <;> first | rfl | cases h

theorem rowStartSpace_cases (s : State) :
    (s.rowStartSpace = .rowStart ∧ s.row < s.rows ∧ (s.command = .g31d ∨ s.command = .g32d)) ∨ s.rowStartSpace = .none := by
  unfold State.rowStartSpace
  split
  · cases hc : s.command <;> simp_all
  · exact .inr rfl

/-- A block that is not `BUSY` reads no word. -/
theorem codeSpace_of_not_busy (h : s.status ≠ .busy) : s.codeSpace = .none := by
  unfold State.codeSpace
  cases hs : s.status <;> simp_all

/-- A running command reads in the code space of its position. -/
theorem codeSpace_of_running (h : s.status = .busy) (hc : s.cmdStart = false) : s.codeSpace = s.posSpace := by
  simp [State.codeSpace, h, hc]

theorem posSpace_ne_command (s : State) : s.posSpace ≠ .command := by
  unfold State.posSpace
  cases s.pos <;> simp
  · rcases rowStartSpace_cases s with h | h <;> simp [h]
  · cases s.color <;> simp [runSpace]
  · cases s.color <;> simp [runSpace]
  · cases s.color <;> simp [runSpace, Colour.opp]

/-- Where a command word is read: right after the write of `CMD_START`. -/
theorem codeSpace_eq_command : s.codeSpace = .command ↔ s.status = .busy ∧ s.cmdStart = true := by
  unfold State.codeSpace
  cases hs : s.status <;> simp
  cases hc : s.cmdStart <;> simp [posSpace_ne_command]

/-- A word of the stream is read only by a running command. -/
theorem codeSpace_eq_stream {sp : CodeSpace} (h1 : sp ≠ .none) (h2 : sp ≠ .command) :
    s.codeSpace = sp ↔ s.status = .busy ∧ s.cmdStart = false ∧ s.posSpace = sp := by
  unfold State.codeSpace
  cases hs : s.status <;> simp [h1.symm]
  cases hc : s.cmdStart <;> simp [h2.symm]

/-- Where a mode word is read. -/
theorem codeSpace_eq_mode : s.codeSpace = .mode ↔ s.status = .busy ∧ s.cmdStart = false ∧ s.pos = .mode := by
  rw [codeSpace_eq_stream (by decide) (by decide)]
  unfold State.posSpace
  cases hp : s.pos <;> simp
  · rcases rowStartSpace_cases s with h | h <;> simp [h]
  · cases s.color <;> simp [runSpace]
  · cases s.color <;> simp [runSpace]
  · cases s.color <;> simp [runSpace, Colour.opp]

/-- Where a tag is read. -/
theorem codeSpace_eq_tag : s.codeSpace = .tag ↔ s.status = .busy ∧ s.cmdStart = false ∧ s.pos = .tag := by
  rw [codeSpace_eq_stream (by decide) (by decide)]
  unfold State.posSpace
  cases hp : s.pos <;> simp
  · rcases rowStartSpace_cases s with h | h <;> simp [h]
  · cases s.color <;> simp [runSpace]
  · cases s.color <;> simp [runSpace]
  · cases s.color <;> simp [runSpace, Colour.opp]

/-- Where a leading EOL is read. -/
theorem codeSpace_eq_rowStart :
    s.codeSpace = .rowStart ↔
      s.status = .busy ∧ s.cmdStart = false ∧ s.pos = .rowStart ∧ s.row < s.rows ∧
        (s.command = .g31d ∨ s.command = .g32d) := by
  rw [codeSpace_eq_stream (by decide) (by decide)]
  unfold State.posSpace
  cases hp : s.pos <;> simp
  · unfold State.rowStartSpace
    split
    · cases hc : s.command <;> simp_all
    · simp_all
  · cases s.color <;> simp [runSpace]
  · cases s.color <;> simp [runSpace]
  · cases s.color <;> simp [runSpace, Colour.opp]

/-- Where a run-length word of a colour is read. -/
theorem codeSpace_eq_runSpace :
    s.codeSpace = runSpace c ↔
      s.status = .busy ∧ s.cmdStart = false ∧
        ((s.pos = .run ∧ s.color = c) ∨ (s.pos = .hRun1 ∧ s.color = c) ∨ (s.pos = .hRun2 ∧ s.color.opp = c)) := by
  rw [codeSpace_eq_stream (by cases c <;> decide) (by cases c <;> decide)]
  unfold State.posSpace
  cases hp : s.pos <;> cases c <;> simp [runSpace]
  all_goals first
    | (rcases rowStartSpace_cases s with h | h <;> simp [h])
    | (cases s.color <;> simp [Colour.opp])

end Sys2Proof.Machine
end

