-- ==== Sys2Proof/Laws/Exec.lean ====
section
/-! SUPPORT. The run-length words by their table entries: what the decoder answers in a run-length space is an entry of the table, and the
meaning of an entry's word is `runWord` with the entry's values. -/

namespace Sys2Proof.Machine

/-- A run-length window decodes to the word of an entry whose code is its prefix (spec/41_run_length_codes.md R120). -/
theorem decodeRunWindow_ok {table : List RunEntry} {w : Nat} {i : Instr} (h : decodeRunWindow table w = .ok i) :
    ∃ e ∈ table, i = e.instr ∧ w >>> (16 - e.bitsRequired) = e.code := by
  unfold decodeRunWindow runLookup at h
  split at h
  · rename_i e he
    have hp := List.find?_some he
    exact ⟨e, List.mem_of_find?_eq_some he, (Except.ok.inj h).symm, by simpa using hp⟩
  · cases h

/-- A mode window decodes to the EOL or to the word of an entry (spec/43_mode_codes.md R350). -/
theorem decodeModeWindow_ok {w : Nat} {i : Instr} (h : decodeModeWindow w = .ok i) :
    (w = 1 ∧ i = .eolAtMode) ∨ (w ≠ 1 ∧ ∃ e ∈ modeTable, i = modeInstr (BitVec.ofNat 5 w) e.mode) := by
  unfold decodeModeWindow modeLookup at h
  split at h
  · exact .inl ⟨‹_›, (Except.ok.inj h).symm⟩
  · split at h
    · rename_i e he
      exact .inr ⟨‹_›, e, List.mem_of_find?_eq_some he, (Except.ok.inj h).symm⟩
    · cases h

/-- The meaning of a run-length word, from its table entry. -/
def EntryMeaning (c : Colour) (e : RunEntry) : Prop :=
  ∀ s, exec e.instr s = runWord c e.bitsRequired e.runLength e.kind s

theorem whiteTableTerminating0_meaning : ∀ e ∈ whiteTableTerminating0, EntryMeaning .white e := by
  simp only [whiteTableTerminating0, List.forall_mem_cons, EntryMeaning]
  exact ⟨fun _ => rfl, fun _ => rfl, fun _ => rfl, fun _ => rfl, fun _ => rfl, fun _ => rfl, fun _ => rfl, fun _ => rfl, fun _ => rfl, fun _ => rfl, fun _ => rfl, fun _ => rfl, fun _ => rfl, fun _ => rfl, fun _ => rfl, fun _ => rfl, fun _ h => absurd h List.not_mem_nil⟩

theorem whiteTableTerminating1_meaning : ∀ e ∈ whiteTableTerminating1, EntryMeaning .white e := by
  simp only [whiteTableTerminating1, List.forall_mem_cons, EntryMeaning]
  exact ⟨fun _ => rfl, fun _ => rfl, fun _ => rfl, fun _ => rfl, fun _ => rfl, fun _ => rfl, fun _ => rfl, fun _ => rfl, fun _ => rfl, fun _ => rfl, fun _ => rfl, fun _ => rfl, fun _ => rfl, fun _ => rfl, fun _ => rfl, fun _ => rfl, fun _ h => absurd h List.not_mem_nil⟩

theorem whiteTableTerminating2_meaning : ∀ e ∈ whiteTableTerminating2, EntryMeaning .white e := by
  simp only [whiteTableTerminating2, List.forall_mem_cons, EntryMeaning]
  exact ⟨fun _ => rfl, fun _ => rfl, fun _ => rfl, fun _ => rfl, fun _ => rfl, fun _ => rfl, fun _ => rfl, fun _ => rfl, fun _ => rfl, fun _ => rfl, fun _ => rfl, fun _ => rfl, fun _ => rfl, fun _ => rfl, fun _ => rfl, fun _ => rfl, fun _ h => absurd h List.not_mem_nil⟩

theorem whiteTableTerminating3_meaning : ∀ e ∈ whiteTableTerminating3, EntryMeaning .white e := by
  simp only [whiteTableTerminating3, List.forall_mem_cons, EntryMeaning]
  exact ⟨fun _ => rfl, fun _ => rfl, fun _ => rfl, fun _ => rfl, fun _ => rfl, fun _ => rfl, fun _ => rfl, fun _ => rfl, fun _ => rfl, fun _ => rfl, fun _ => rfl, fun _ => rfl, fun _ => rfl, fun _ => rfl, fun _ => rfl, fun _ => rfl, fun _ h => absurd h List.not_mem_nil⟩

theorem whiteTableMakeup0_meaning : ∀ e ∈ whiteTableMakeup0, EntryMeaning .white e := by
  simp only [whiteTableMakeup0, List.forall_mem_cons, EntryMeaning]
  exact ⟨fun _ => rfl, fun _ => rfl, fun _ => rfl, fun _ => rfl, fun _ => rfl, fun _ => rfl, fun _ => rfl, fun _ => rfl, fun _ => rfl, fun _ => rfl, fun _ => rfl, fun _ => rfl, fun _ => rfl, fun _ => rfl, fun _ => rfl, fun _ => rfl, fun _ h => absurd h List.not_mem_nil⟩

theorem whiteTableMakeup1_meaning : ∀ e ∈ whiteTableMakeup1, EntryMeaning .white e := by
  simp only [whiteTableMakeup1, List.forall_mem_cons, EntryMeaning]
  exact ⟨fun _ => rfl, fun _ => rfl, fun _ => rfl, fun _ => rfl, fun _ => rfl, fun _ => rfl, fun _ => rfl, fun _ => rfl, fun _ => rfl, fun _ => rfl, fun _ => rfl, fun _ h => absurd h List.not_mem_nil⟩

theorem whiteTableExtended_meaning : ∀ e ∈ whiteTableExtended, EntryMeaning .white e := by
  simp only [whiteTableExtended, List.forall_mem_cons, EntryMeaning]
  exact ⟨fun _ => rfl, fun _ => rfl, fun _ => rfl, fun _ => rfl, fun _ => rfl, fun _ => rfl, fun _ => rfl, fun _ => rfl, fun _ => rfl, fun _ => rfl, fun _ => rfl, fun _ => rfl, fun _ => rfl, fun _ => rfl, fun _ h => absurd h List.not_mem_nil⟩

/-- The meaning of every word of the white table. -/
theorem whiteTable_meaning : ∀ e ∈ whiteTable, EntryMeaning .white e := by
  intro e he
  simp only [whiteTable, List.mem_append] at he
  rcases he with (((((h | h) | h) | h) | h) | h) | h
  · exact whiteTableTerminating0_meaning e h
  · exact whiteTableTerminating1_meaning e h
  · exact whiteTableTerminating2_meaning e h
  · exact whiteTableTerminating3_meaning e h
  · exact whiteTableMakeup0_meaning e h
  · exact whiteTableMakeup1_meaning e h
  · exact whiteTableExtended_meaning e h

theorem blackTableTerminating0_meaning : ∀ e ∈ blackTableTerminating0, EntryMeaning .black e := by
  simp only [blackTableTerminating0, List.forall_mem_cons, EntryMeaning]
  exact ⟨fun _ => rfl, fun _ => rfl, fun _ => rfl, fun _ => rfl, fun _ => rfl, fun _ => rfl, fun _ => rfl, fun _ => rfl, fun _ => rfl, fun _ => rfl, fun _ => rfl, fun _ => rfl, fun _ => rfl, fun _ => rfl, fun _ => rfl, fun _ => rfl, fun _ h => absurd h List.not_mem_nil⟩

theorem blackTableTerminating1_meaning : ∀ e ∈ blackTableTerminating1, EntryMeaning .black e := by
  simp only [blackTableTerminating1, List.forall_mem_cons, EntryMeaning]
  exact ⟨fun _ => rfl, fun _ => rfl, fun _ => rfl, fun _ => rfl, fun _ => rfl, fun _ => rfl, fun _ => rfl, fun _ => rfl, fun _ => rfl, fun _ => rfl, fun _ => rfl, fun _ => rfl, fun _ => rfl, fun _ => rfl, fun _ => rfl, fun _ => rfl, fun _ h => absurd h List.not_mem_nil⟩

theorem blackTableTerminating2_meaning : ∀ e ∈ blackTableTerminating2, EntryMeaning .black e := by
  simp only [blackTableTerminating2, List.forall_mem_cons, EntryMeaning]
  exact ⟨fun _ => rfl, fun _ => rfl, fun _ => rfl, fun _ => rfl, fun _ => rfl, fun _ => rfl, fun _ => rfl, fun _ => rfl, fun _ => rfl, fun _ => rfl, fun _ => rfl, fun _ => rfl, fun _ => rfl, fun _ => rfl, fun _ => rfl, fun _ => rfl, fun _ h => absurd h List.not_mem_nil⟩

theorem blackTableTerminating3_meaning : ∀ e ∈ blackTableTerminating3, EntryMeaning .black e := by
  simp only [blackTableTerminating3, List.forall_mem_cons, EntryMeaning]
  exact ⟨fun _ => rfl, fun _ => rfl, fun _ => rfl, fun _ => rfl, fun _ => rfl, fun _ => rfl, fun _ => rfl, fun _ => rfl, fun _ => rfl, fun _ => rfl, fun _ => rfl, fun _ => rfl, fun _ => rfl, fun _ => rfl, fun _ => rfl, fun _ => rfl, fun _ h => absurd h List.not_mem_nil⟩

theorem blackTableMakeup0_meaning : ∀ e ∈ blackTableMakeup0, EntryMeaning .black e := by
  simp only [blackTableMakeup0, List.forall_mem_cons, EntryMeaning]
  exact ⟨fun _ => rfl, fun _ => rfl, fun _ => rfl, fun _ => rfl, fun _ => rfl, fun _ => rfl, fun _ => rfl, fun _ => rfl, fun _ => rfl, fun _ => rfl, fun _ => rfl, fun _ => rfl, fun _ => rfl, fun _ => rfl, fun _ => rfl, fun _ => rfl, fun _ h => absurd h List.not_mem_nil⟩

theorem blackTableMakeup1_meaning : ∀ e ∈ blackTableMakeup1, EntryMeaning .black e := by
  simp only [blackTableMakeup1, List.forall_mem_cons, EntryMeaning]
  exact ⟨fun _ => rfl, fun _ => rfl, fun _ => rfl, fun _ => rfl, fun _ => rfl, fun _ => rfl, fun _ => rfl, fun _ => rfl, fun _ => rfl, fun _ => rfl, fun _ => rfl, fun _ h => absurd h List.not_mem_nil⟩

theorem blackTableExtended_meaning : ∀ e ∈ blackTableExtended, EntryMeaning .black e := by
  simp only [blackTableExtended, List.forall_mem_cons, EntryMeaning]
  exact ⟨fun _ => rfl, fun _ => rfl, fun _ => rfl, fun _ => rfl, fun _ => rfl, fun _ => rfl, fun _ => rfl, fun _ => rfl, fun _ => rfl, fun _ => rfl, fun _ => rfl, fun _ => rfl, fun _ => rfl, fun _ => rfl, fun _ h => absurd h List.not_mem_nil⟩

/-- The meaning of every word of the black table. -/
theorem blackTable_meaning : ∀ e ∈ blackTable, EntryMeaning .black e := by
  intro e he
  simp only [blackTable, List.mem_append] at he
  rcases he with (((((h | h) | h) | h) | h) | h) | h
  · exact blackTableTerminating0_meaning e h
  · exact blackTableTerminating1_meaning e h
  · exact blackTableTerminating2_meaning e h
  · exact blackTableTerminating3_meaning e h
  · exact blackTableMakeup0_meaning e h
  · exact blackTableMakeup1_meaning e h
  · exact blackTableExtended_meaning e h

/-- The meaning of every run-length word. -/
theorem runTable_meaning (c : Colour) : ∀ e ∈ runTable c, EntryMeaning c e := by
  cases c
  · exact whiteTable_meaning
  · exact blackTable_meaning

/-- What a step does when it runs: the word of the fetch, or the engine's answer where there is none. -/
theorem step_awake {s : State} (h : s.awake = true) :
    step s = match s.fetch with
      | .ok i => exec i s
      | .error e => noWord e s := if_pos h

theorem step_idle {s : State} (h : s.awake = false) : step s = .next s := by
  simp [step, h]

end Sys2Proof.Machine
end

