-- ==== Sys2Proof/Laws/PerInstr.lean ====
section
/-! SUPPORT. Claims about every word, one lemma per constructor. -/

namespace Sys2Proof.Laws.WordLength

/-- A word of the stream takes at least one bit and, unless it is a leading EOL, at most 13 (spec/30_encoding.md R91,
spec/70_reset_and_hazards.md R534 a). -/
def Statement (i : Instr) : Prop :=
  1 ≤ (encode i).length ∧ (i.space ≠ .rowStart → (encode i).length ≤ 13)

theorem w0 : Statement .w0 := ⟨by decide, fun _ => by decide⟩
theorem w1 : Statement .w1 := ⟨by decide, fun _ => by decide⟩
theorem w2 : Statement .w2 := ⟨by decide, fun _ => by decide⟩
theorem w3 : Statement .w3 := ⟨by decide, fun _ => by decide⟩
theorem w4 : Statement .w4 := ⟨by decide, fun _ => by decide⟩
theorem w5 : Statement .w5 := ⟨by decide, fun _ => by decide⟩
theorem w6 : Statement .w6 := ⟨by decide, fun _ => by decide⟩
theorem w7 : Statement .w7 := ⟨by decide, fun _ => by decide⟩
theorem w8 : Statement .w8 := ⟨by decide, fun _ => by decide⟩
theorem w9 : Statement .w9 := ⟨by decide, fun _ => by decide⟩
theorem w10 : Statement .w10 := ⟨by decide, fun _ => by decide⟩
theorem w11 : Statement .w11 := ⟨by decide, fun _ => by decide⟩
theorem w12 : Statement .w12 := ⟨by decide, fun _ => by decide⟩
theorem w13 : Statement .w13 := ⟨by decide, fun _ => by decide⟩
theorem w14 : Statement .w14 := ⟨by decide, fun _ => by decide⟩
theorem w15 : Statement .w15 := ⟨by decide, fun _ => by decide⟩
theorem w16 : Statement .w16 := ⟨by decide, fun _ => by decide⟩
theorem w17 : Statement .w17 := ⟨by decide, fun _ => by decide⟩
theorem w18 : Statement .w18 := ⟨by decide, fun _ => by decide⟩
theorem w19 : Statement .w19 := ⟨by decide, fun _ => by decide⟩
theorem w20 : Statement .w20 := ⟨by decide, fun _ => by decide⟩
theorem w21 : Statement .w21 := ⟨by decide, fun _ => by decide⟩
theorem w22 : Statement .w22 := ⟨by decide, fun _ => by decide⟩
theorem w23 : Statement .w23 := ⟨by decide, fun _ => by decide⟩
theorem w24 : Statement .w24 := ⟨by decide, fun _ => by decide⟩
theorem w25 : Statement .w25 := ⟨by decide, fun _ => by decide⟩
theorem w26 : Statement .w26 := ⟨by decide, fun _ => by decide⟩
theorem w27 : Statement .w27 := ⟨by decide, fun _ => by decide⟩
theorem w28 : Statement .w28 := ⟨by decide, fun _ => by decide⟩
theorem w29 : Statement .w29 := ⟨by decide, fun _ => by decide⟩
theorem w30 : Statement .w30 := ⟨by decide, fun _ => by decide⟩
theorem w31 : Statement .w31 := ⟨by decide, fun _ => by decide⟩
theorem w32 : Statement .w32 := ⟨by decide, fun _ => by decide⟩
theorem w33 : Statement .w33 := ⟨by decide, fun _ => by decide⟩
theorem w34 : Statement .w34 := ⟨by decide, fun _ => by decide⟩
theorem w35 : Statement .w35 := ⟨by decide, fun _ => by decide⟩
theorem w36 : Statement .w36 := ⟨by decide, fun _ => by decide⟩
theorem w37 : Statement .w37 := ⟨by decide, fun _ => by decide⟩
theorem w38 : Statement .w38 := ⟨by decide, fun _ => by decide⟩
theorem w39 : Statement .w39 := ⟨by decide, fun _ => by decide⟩
theorem w40 : Statement .w40 := ⟨by decide, fun _ => by decide⟩
theorem w41 : Statement .w41 := ⟨by decide, fun _ => by decide⟩
theorem w42 : Statement .w42 := ⟨by decide, fun _ => by decide⟩
theorem w43 : Statement .w43 := ⟨by decide, fun _ => by decide⟩
theorem w44 : Statement .w44 := ⟨by decide, fun _ => by decide⟩
theorem w45 : Statement .w45 := ⟨by decide, fun _ => by decide⟩
theorem w46 : Statement .w46 := ⟨by decide, fun _ => by decide⟩
theorem w47 : Statement .w47 := ⟨by decide, fun _ => by decide⟩
theorem w48 : Statement .w48 := ⟨by decide, fun _ => by decide⟩
theorem w49 : Statement .w49 := ⟨by decide, fun _ => by decide⟩
theorem w50 : Statement .w50 := ⟨by decide, fun _ => by decide⟩
theorem w51 : Statement .w51 := ⟨by decide, fun _ => by decide⟩
theorem w52 : Statement .w52 := ⟨by decide, fun _ => by decide⟩
theorem w53 : Statement .w53 := ⟨by decide, fun _ => by decide⟩
theorem w54 : Statement .w54 := ⟨by decide, fun _ => by decide⟩
theorem w55 : Statement .w55 := ⟨by decide, fun _ => by decide⟩
theorem w56 : Statement .w56 := ⟨by decide, fun _ => by decide⟩
theorem w57 : Statement .w57 := ⟨by decide, fun _ => by decide⟩
theorem w58 : Statement .w58 := ⟨by decide, fun _ => by decide⟩
theorem w59 : Statement .w59 := ⟨by decide, fun _ => by decide⟩
theorem w60 : Statement .w60 := ⟨by decide, fun _ => by decide⟩
theorem w61 : Statement .w61 := ⟨by decide, fun _ => by decide⟩
theorem w62 : Statement .w62 := ⟨by decide, fun _ => by decide⟩
theorem w63 : Statement .w63 := ⟨by decide, fun _ => by decide⟩
theorem wm64 : Statement .wm64 := ⟨by decide, fun _ => by decide⟩
theorem wm128 : Statement .wm128 := ⟨by decide, fun _ => by decide⟩
theorem wm192 : Statement .wm192 := ⟨by decide, fun _ => by decide⟩
theorem wm256 : Statement .wm256 := ⟨by decide, fun _ => by decide⟩
theorem wm320 : Statement .wm320 := ⟨by decide, fun _ => by decide⟩
theorem wm384 : Statement .wm384 := ⟨by decide, fun _ => by decide⟩
theorem wm448 : Statement .wm448 := ⟨by decide, fun _ => by decide⟩
theorem wm512 : Statement .wm512 := ⟨by decide, fun _ => by decide⟩
theorem wm576 : Statement .wm576 := ⟨by decide, fun _ => by decide⟩
theorem wm640 : Statement .wm640 := ⟨by decide, fun _ => by decide⟩
theorem wm704 : Statement .wm704 := ⟨by decide, fun _ => by decide⟩
theorem wm768 : Statement .wm768 := ⟨by decide, fun _ => by decide⟩
theorem wm832 : Statement .wm832 := ⟨by decide, fun _ => by decide⟩
theorem wm896 : Statement .wm896 := ⟨by decide, fun _ => by decide⟩
theorem wm960 : Statement .wm960 := ⟨by decide, fun _ => by decide⟩
theorem wm1024 : Statement .wm1024 := ⟨by decide, fun _ => by decide⟩
theorem wm1088 : Statement .wm1088 := ⟨by decide, fun _ => by decide⟩
theorem wm1152 : Statement .wm1152 := ⟨by decide, fun _ => by decide⟩
theorem wm1216 : Statement .wm1216 := ⟨by decide, fun _ => by decide⟩
theorem wm1280 : Statement .wm1280 := ⟨by decide, fun _ => by decide⟩
theorem wm1344 : Statement .wm1344 := ⟨by decide, fun _ => by decide⟩
theorem wm1408 : Statement .wm1408 := ⟨by decide, fun _ => by decide⟩
theorem wm1472 : Statement .wm1472 := ⟨by decide, fun _ => by decide⟩
theorem wm1536 : Statement .wm1536 := ⟨by decide, fun _ => by decide⟩
theorem wm1600 : Statement .wm1600 := ⟨by decide, fun _ => by decide⟩
theorem wm1664 : Statement .wm1664 := ⟨by decide, fun _ => by decide⟩
theorem wm1728 : Statement .wm1728 := ⟨by decide, fun _ => by decide⟩
theorem wm1792 : Statement .wm1792 := ⟨by decide, fun _ => by decide⟩
theorem wm1856 : Statement .wm1856 := ⟨by decide, fun _ => by decide⟩
theorem wm1920 : Statement .wm1920 := ⟨by decide, fun _ => by decide⟩
theorem wm1984 : Statement .wm1984 := ⟨by decide, fun _ => by decide⟩
theorem wm2048 : Statement .wm2048 := ⟨by decide, fun _ => by decide⟩
theorem wm2112 : Statement .wm2112 := ⟨by decide, fun _ => by decide⟩
theorem wm2176 : Statement .wm2176 := ⟨by decide, fun _ => by decide⟩
theorem wm2240 : Statement .wm2240 := ⟨by decide, fun _ => by decide⟩
theorem wm2304 : Statement .wm2304 := ⟨by decide, fun _ => by decide⟩
theorem wm2368 : Statement .wm2368 := ⟨by decide, fun _ => by decide⟩
theorem wm2432 : Statement .wm2432 := ⟨by decide, fun _ => by decide⟩
theorem wm2496 : Statement .wm2496 := ⟨by decide, fun _ => by decide⟩
theorem wm2560 : Statement .wm2560 := ⟨by decide, fun _ => by decide⟩
theorem wEol : Statement .wEol := ⟨by decide, fun _ => by decide⟩
theorem b0 : Statement .b0 := ⟨by decide, fun _ => by decide⟩
theorem b1 : Statement .b1 := ⟨by decide, fun _ => by decide⟩
theorem b2 : Statement .b2 := ⟨by decide, fun _ => by decide⟩
theorem b3 : Statement .b3 := ⟨by decide, fun _ => by decide⟩
theorem b4 : Statement .b4 := ⟨by decide, fun _ => by decide⟩
theorem b5 : Statement .b5 := ⟨by decide, fun _ => by decide⟩
theorem b6 : Statement .b6 := ⟨by decide, fun _ => by decide⟩
theorem b7 : Statement .b7 := ⟨by decide, fun _ => by decide⟩
theorem b8 : Statement .b8 := ⟨by decide, fun _ => by decide⟩
theorem b9 : Statement .b9 := ⟨by decide, fun _ => by decide⟩
theorem b10 : Statement .b10 := ⟨by decide, fun _ => by decide⟩
theorem b11 : Statement .b11 := ⟨by decide, fun _ => by decide⟩
theorem b12 : Statement .b12 := ⟨by decide, fun _ => by decide⟩
theorem b13 : Statement .b13 := ⟨by decide, fun _ => by decide⟩
theorem b14 : Statement .b14 := ⟨by decide, fun _ => by decide⟩
theorem b15 : Statement .b15 := ⟨by decide, fun _ => by decide⟩
theorem b16 : Statement .b16 := ⟨by decide, fun _ => by decide⟩
theorem b17 : Statement .b17 := ⟨by decide, fun _ => by decide⟩
theorem b18 : Statement .b18 := ⟨by decide, fun _ => by decide⟩
theorem b19 : Statement .b19 := ⟨by decide, fun _ => by decide⟩
theorem b20 : Statement .b20 := ⟨by decide, fun _ => by decide⟩
theorem b21 : Statement .b21 := ⟨by decide, fun _ => by decide⟩
theorem b22 : Statement .b22 := ⟨by decide, fun _ => by decide⟩
theorem b23 : Statement .b23 := ⟨by decide, fun _ => by decide⟩
theorem b24 : Statement .b24 := ⟨by decide, fun _ => by decide⟩
theorem b25 : Statement .b25 := ⟨by decide, fun _ => by decide⟩
theorem b26 : Statement .b26 := ⟨by decide, fun _ => by decide⟩
theorem b27 : Statement .b27 := ⟨by decide, fun _ => by decide⟩
theorem b28 : Statement .b28 := ⟨by decide, fun _ => by decide⟩
theorem b29 : Statement .b29 := ⟨by decide, fun _ => by decide⟩
theorem b30 : Statement .b30 := ⟨by decide, fun _ => by decide⟩
theorem b31 : Statement .b31 := ⟨by decide, fun _ => by decide⟩
theorem b32 : Statement .b32 := ⟨by decide, fun _ => by decide⟩
theorem b33 : Statement .b33 := ⟨by decide, fun _ => by decide⟩
theorem b34 : Statement .b34 := ⟨by decide, fun _ => by decide⟩
theorem b35 : Statement .b35 := ⟨by decide, fun _ => by decide⟩
theorem b36 : Statement .b36 := ⟨by decide, fun _ => by decide⟩
theorem b37 : Statement .b37 := ⟨by decide, fun _ => by decide⟩
theorem b38 : Statement .b38 := ⟨by decide, fun _ => by decide⟩
theorem b39 : Statement .b39 := ⟨by decide, fun _ => by decide⟩
theorem b40 : Statement .b40 := ⟨by decide, fun _ => by decide⟩
theorem b41 : Statement .b41 := ⟨by decide, fun _ => by decide⟩
theorem b42 : Statement .b42 := ⟨by decide, fun _ => by decide⟩
theorem b43 : Statement .b43 := ⟨by decide, fun _ => by decide⟩
theorem b44 : Statement .b44 := ⟨by decide, fun _ => by decide⟩
theorem b45 : Statement .b45 := ⟨by decide, fun _ => by decide⟩
theorem b46 : Statement .b46 := ⟨by decide, fun _ => by decide⟩
theorem b47 : Statement .b47 := ⟨by decide, fun _ => by decide⟩
theorem b48 : Statement .b48 := ⟨by decide, fun _ => by decide⟩
theorem b49 : Statement .b49 := ⟨by decide, fun _ => by decide⟩
theorem b50 : Statement .b50 := ⟨by decide, fun _ => by decide⟩
theorem b51 : Statement .b51 := ⟨by decide, fun _ => by decide⟩
theorem b52 : Statement .b52 := ⟨by decide, fun _ => by decide⟩
theorem b53 : Statement .b53 := ⟨by decide, fun _ => by decide⟩
theorem b54 : Statement .b54 := ⟨by decide, fun _ => by decide⟩
theorem b55 : Statement .b55 := ⟨by decide, fun _ => by decide⟩
theorem b56 : Statement .b56 := ⟨by decide, fun _ => by decide⟩
theorem b57 : Statement .b57 := ⟨by decide, fun _ => by decide⟩
theorem b58 : Statement .b58 := ⟨by decide, fun _ => by decide⟩
theorem b59 : Statement .b59 := ⟨by decide, fun _ => by decide⟩
theorem b60 : Statement .b60 := ⟨by decide, fun _ => by decide⟩
theorem b61 : Statement .b61 := ⟨by decide, fun _ => by decide⟩
theorem b62 : Statement .b62 := ⟨by decide, fun _ => by decide⟩
theorem b63 : Statement .b63 := ⟨by decide, fun _ => by decide⟩
theorem bm64 : Statement .bm64 := ⟨by decide, fun _ => by decide⟩
theorem bm128 : Statement .bm128 := ⟨by decide, fun _ => by decide⟩
theorem bm192 : Statement .bm192 := ⟨by decide, fun _ => by decide⟩
theorem bm256 : Statement .bm256 := ⟨by decide, fun _ => by decide⟩
theorem bm320 : Statement .bm320 := ⟨by decide, fun _ => by decide⟩
theorem bm384 : Statement .bm384 := ⟨by decide, fun _ => by decide⟩
theorem bm448 : Statement .bm448 := ⟨by decide, fun _ => by decide⟩
theorem bm512 : Statement .bm512 := ⟨by decide, fun _ => by decide⟩
theorem bm576 : Statement .bm576 := ⟨by decide, fun _ => by decide⟩
theorem bm640 : Statement .bm640 := ⟨by decide, fun _ => by decide⟩
theorem bm704 : Statement .bm704 := ⟨by decide, fun _ => by decide⟩
theorem bm768 : Statement .bm768 := ⟨by decide, fun _ => by decide⟩
theorem bm832 : Statement .bm832 := ⟨by decide, fun _ => by decide⟩
theorem bm896 : Statement .bm896 := ⟨by decide, fun _ => by decide⟩
theorem bm960 : Statement .bm960 := ⟨by decide, fun _ => by decide⟩
theorem bm1024 : Statement .bm1024 := ⟨by decide, fun _ => by decide⟩
theorem bm1088 : Statement .bm1088 := ⟨by decide, fun _ => by decide⟩
theorem bm1152 : Statement .bm1152 := ⟨by decide, fun _ => by decide⟩
theorem bm1216 : Statement .bm1216 := ⟨by decide, fun _ => by decide⟩
theorem bm1280 : Statement .bm1280 := ⟨by decide, fun _ => by decide⟩
theorem bm1344 : Statement .bm1344 := ⟨by decide, fun _ => by decide⟩
theorem bm1408 : Statement .bm1408 := ⟨by decide, fun _ => by decide⟩
theorem bm1472 : Statement .bm1472 := ⟨by decide, fun _ => by decide⟩
theorem bm1536 : Statement .bm1536 := ⟨by decide, fun _ => by decide⟩
theorem bm1600 : Statement .bm1600 := ⟨by decide, fun _ => by decide⟩
theorem bm1664 : Statement .bm1664 := ⟨by decide, fun _ => by decide⟩
theorem bm1728 : Statement .bm1728 := ⟨by decide, fun _ => by decide⟩
theorem bm1792 : Statement .bm1792 := ⟨by decide, fun _ => by decide⟩
theorem bm1856 : Statement .bm1856 := ⟨by decide, fun _ => by decide⟩
theorem bm1920 : Statement .bm1920 := ⟨by decide, fun _ => by decide⟩
theorem bm1984 : Statement .bm1984 := ⟨by decide, fun _ => by decide⟩
theorem bm2048 : Statement .bm2048 := ⟨by decide, fun _ => by decide⟩
theorem bm2112 : Statement .bm2112 := ⟨by decide, fun _ => by decide⟩
theorem bm2176 : Statement .bm2176 := ⟨by decide, fun _ => by decide⟩
theorem bm2240 : Statement .bm2240 := ⟨by decide, fun _ => by decide⟩
theorem bm2304 : Statement .bm2304 := ⟨by decide, fun _ => by decide⟩
theorem bm2368 : Statement .bm2368 := ⟨by decide, fun _ => by decide⟩
theorem bm2432 : Statement .bm2432 := ⟨by decide, fun _ => by decide⟩
theorem bm2496 : Statement .bm2496 := ⟨by decide, fun _ => by decide⟩
theorem bm2560 : Statement .bm2560 := ⟨by decide, fun _ => by decide⟩
theorem bEol : Statement .bEol := ⟨by decide, fun _ => by decide⟩
theorem eolAtMode : Statement .eolAtMode := ⟨by decide, fun _ => by decide⟩
theorem p : Statement .p := ⟨by decide, fun _ => by decide⟩
theorem h : Statement .h := ⟨by decide, fun _ => by decide⟩
theorem v0 : Statement .v0 := ⟨by decide, fun _ => by decide⟩
theorem vr1 : Statement .vr1 := ⟨by decide, fun _ => by decide⟩
theorem vr2 : Statement .vr2 := ⟨by decide, fun _ => by decide⟩
theorem vr3 : Statement .vr3 := ⟨by decide, fun _ => by decide⟩
theorem vl1 : Statement .vl1 := ⟨by decide, fun _ => by decide⟩
theorem vl2 : Statement .vl2 := ⟨by decide, fun _ => by decide⟩
theorem vl3 : Statement .vl3 := ⟨by decide, fun _ => by decide⟩
theorem x2d (ext : BitVec 5) : Statement (.x2d ext) :=
  ⟨Nat.succ_le_of_lt (Nat.zero_lt_succ _), fun _ => Nat.le_of_ble_eq_true rfl⟩
theorem x1d (ext : BitVec 5) : Statement (.x1d ext) :=
  ⟨Nat.succ_le_of_lt (Nat.zero_lt_succ _), fun _ => Nat.le_of_ble_eq_true rfl⟩
theorem leol (zeros : Nat) : Statement (.leol zeros) :=
  ⟨List.length_pos_of_ne_nil (List.append_ne_nil_of_right_ne_nil _ (List.cons_ne_nil true [])), fun h => absurd rfl h⟩
theorem tag1 : Statement .tag1 := ⟨by decide, fun _ => by decide⟩
theorem tag0 : Statement .tag0 := ⟨by decide, fun _ => by decide⟩
theorem decodeG31d : Statement .decodeG31d := ⟨by decide, fun _ => by decide⟩
theorem decodeG32d : Statement .decodeG32d := ⟨by decide, fun _ => by decide⟩
theorem decodeG4 : Statement .decodeG4 := ⟨by decide, fun _ => by decide⟩
theorem cmdReserved : Statement .cmdReserved := ⟨by decide, fun _ => by decide⟩

end Sys2Proof.Laws.WordLength
end

