-- ==== Sys2Proof/Tests/Slice0.lean ====
section
/-! SUPPORT. The model's own tests: the smoke test of well-formedness, the decoding of every word of the opcode table, single steps whose
results are those of spec/95_test_vectors.md, and for every statement with hypotheses a witness that meets them. -/

namespace Sys2Proof.Tests

open Sys2Proof Sys2Proof.Machine

set_option Elab.async false

/-! ### Helpers -/

/-- The decoder answers `i` on these bits. -/
def decodesTo (sp : CodeSpace) (bits : List Bool) (i : Instr) : Bool :=
  match decode sp bits with
  | .ok j => decide (j = i)
  | .error _ => false

/-- The decoder refuses these bits, by this name. -/
def rejects (sp : CodeSpace) (bits : List Bool) (e : DecodeError) : Bool :=
  match decode sp bits with
  | .ok _ => false
  | .error f => decide (f = e)

/-- Every window of `n` bits of the list decodes to the word beside it. -/
def tableDecodes (sp : CodeSpace) (n : Nat) (rows : List (Nat × Instr)) : Bool :=
  rows.all (fun r => decodesTo sp (codeBits n r.1) r.2)

/-- The outcome is a next state with the property. -/
def nextIs (o : Result) (p : State → Bool) : Bool :=
  match o with
  | .next t => p t
  | .fault _ => false
  | .refused _ => false

theorem exists_of_nextIs {o : Result} {p : State → Bool} (h : nextIs o p = true) : ∃ t, o = .next t ∧ p t = true := by
  cases o with
  | next t => exact ⟨t, rfl, h⟩
  | fault r => cases h
  | refused r => cases h

/-- The outcome is the block's own fault. -/
def faultsWith (o : Result) (code : FaultCode) : Bool :=
  nextIs o (fun t => decide (t.status = .fault) && decide (t.faultCode = code))

/-- The fetch answers a word. -/
def fetches (s : State) (i : Instr) : Bool :=
  match s.fetch with
  | .ok j => decide (j = i)
  | .error _ => false

/-- The fetch answers that there is no word. -/
def fetchesNone (s : State) (e : DecodeError) : Bool :=
  match s.fetch with
  | .ok _ => false
  | .error f => decide (f = e)

theorem fetch_of_fetches {s : State} {i : Instr} (h : fetches s i = true) : s.fetch = .ok i := by
  unfold fetches at h
  split at h
  · rename_i he
    rw [he, of_decide_eq_true h]
  · cases h

theorem fetch_of_fetchesNone {s : State} {e : DecodeError} (h : fetchesNone s e = true) : s.fetch = .error e := by
  unfold fetchesNone at h
  split at h
  · cases h
  · rename_i he
    rw [he, of_decide_eq_true h]

/-- A configured block, idle: `ROWS` rows of 8 pixels, WhiteIsZero, most significant bit first. -/
def configured (mode : BitVec 2) (rows : Nat) (bytes : List Byte) : State :=
  { State.reset with
    cfgMode := mode
    cfgBps := 1
    cfgWidth := 8
    cfgReq := rows
    outCap := 8 * rows
    input := Memory.load [] 0 bytes
    inLen := bytes.length }

/-- The same block running, at a position. -/
def running (mode : BitVec 2) (rows : Nat) (bytes : List Byte) (pos : Pos) : State :=
  { configured mode rows bytes with status := .busy, pos := pos, ref := startRef (commandOf mode) }

/-- The pixels of a row, `true` for black. -/
def pixels (s : State) (row : Nat) : List Bool :=
  (List.range s.cfgWidth).map (fun i => decide (s.output.read (row * s.cfgWidth + i) = s.byteOf .black))

/-! ### Well-formedness -/

theorem test_wf_leol : Instr.wf (.leol 11) = true := by decide
theorem test_ill_formed_leol : Instr.wf (.leol 10) = false := by decide
theorem test_wf_x1d : Instr.wf (.x1d 0#5) = true := by decide
theorem test_ill_formed_x1d : Instr.wf (.x1d 1#5) = false := by decide
theorem test_wf_x2d : Instr.wf (.x2d 1#5) = true := by decide

/-! ### Decoding: every word of the opcode table, as the table numbers it -/

theorem test_decode_white_w0_to_w15 :
    tableDecodes .white 16 [(0x3500, .w0), (0x1C00, .w1), (0x7000, .w2), (0x8000, .w3),
    (0xB000, .w4), (0xC000, .w5), (0xE000, .w6), (0xF000, .w7),
    (0x9800, .w8), (0xA000, .w9), (0x3800, .w10), (0x4000, .w11),
    (0x2000, .w12), (0x0C00, .w13), (0xD000, .w14), (0xD400, .w15)] = true := by decide +kernel

theorem test_decode_white_w16_to_w31 :
    tableDecodes .white 16 [(0xA800, .w16), (0xAC00, .w17), (0x4E00, .w18), (0x1800, .w19),
    (0x1000, .w20), (0x2E00, .w21), (0x0600, .w22), (0x0800, .w23),
    (0x5000, .w24), (0x5600, .w25), (0x2600, .w26), (0x4800, .w27),
    (0x3000, .w28), (0x0200, .w29), (0x0300, .w30), (0x1A00, .w31)] = true := by decide +kernel

theorem test_decode_white_w32_to_w47 :
    tableDecodes .white 16 [(0x1B00, .w32), (0x1200, .w33), (0x1300, .w34), (0x1400, .w35),
    (0x1500, .w36), (0x1600, .w37), (0x1700, .w38), (0x2800, .w39),
    (0x2900, .w40), (0x2A00, .w41), (0x2B00, .w42), (0x2C00, .w43),
    (0x2D00, .w44), (0x0400, .w45), (0x0500, .w46), (0x0A00, .w47)] = true := by decide +kernel

theorem test_decode_white_w48_to_w63 :
    tableDecodes .white 16 [(0x0B00, .w48), (0x5200, .w49), (0x5300, .w50), (0x5400, .w51),
    (0x5500, .w52), (0x2400, .w53), (0x2500, .w54), (0x5800, .w55),
    (0x5900, .w56), (0x5A00, .w57), (0x5B00, .w58), (0x4A00, .w59),
    (0x4B00, .w60), (0x3200, .w61), (0x3300, .w62), (0x3400, .w63)] = true := by decide +kernel

theorem test_decode_white_wm64_to_wm1024 :
    tableDecodes .white 16 [(0xD800, .wm64), (0x9000, .wm128), (0x5C00, .wm192), (0x6E00, .wm256),
    (0x3600, .wm320), (0x3700, .wm384), (0x6400, .wm448), (0x6500, .wm512),
    (0x6800, .wm576), (0x6700, .wm640), (0x6600, .wm704), (0x6680, .wm768),
    (0x6900, .wm832), (0x6980, .wm896), (0x6A00, .wm960), (0x6A80, .wm1024)] = true := by decide +kernel

theorem test_decode_white_wm1088_to_wm2048 :
    tableDecodes .white 16 [(0x6B00, .wm1088), (0x6B80, .wm1152), (0x6C00, .wm1216), (0x6C80, .wm1280),
    (0x6D00, .wm1344), (0x6D80, .wm1408), (0x4C00, .wm1472), (0x4C80, .wm1536),
    (0x4D00, .wm1600), (0x6000, .wm1664), (0x4D80, .wm1728), (0x0100, .wm1792),
    (0x0180, .wm1856), (0x01A0, .wm1920), (0x0120, .wm1984), (0x0130, .wm2048)] = true := by decide +kernel

theorem test_decode_white_wm2112_to_w_eol :
    tableDecodes .white 16 [(0x0140, .wm2112), (0x0150, .wm2176), (0x0160, .wm2240), (0x0170, .wm2304),
    (0x01C0, .wm2368), (0x01D0, .wm2432), (0x01E0, .wm2496), (0x01F0, .wm2560),
    (0x0010, .wEol)] = true := by decide +kernel

theorem test_decode_black_b0_to_b15 :
    tableDecodes .black 16 [(0x0DC0, .b0), (0x4000, .b1), (0xC000, .b2), (0x8000, .b3),
    (0x6000, .b4), (0x3000, .b5), (0x2000, .b6), (0x1800, .b7),
    (0x1400, .b8), (0x1000, .b9), (0x0800, .b10), (0x0A00, .b11),
    (0x0E00, .b12), (0x0400, .b13), (0x0700, .b14), (0x0C00, .b15)] = true := by decide +kernel

theorem test_decode_black_b16_to_b31 :
    tableDecodes .black 16 [(0x05C0, .b16), (0x0600, .b17), (0x0200, .b18), (0x0CE0, .b19),
    (0x0D00, .b20), (0x0D80, .b21), (0x06E0, .b22), (0x0500, .b23),
    (0x02E0, .b24), (0x0300, .b25), (0x0CA0, .b26), (0x0CB0, .b27),
    (0x0CC0, .b28), (0x0CD0, .b29), (0x0680, .b30), (0x0690, .b31)] = true := by decide +kernel

theorem test_decode_black_b32_to_b47 :
    tableDecodes .black 16 [(0x06A0, .b32), (0x06B0, .b33), (0x0D20, .b34), (0x0D30, .b35),
    (0x0D40, .b36), (0x0D50, .b37), (0x0D60, .b38), (0x0D70, .b39),
    (0x06C0, .b40), (0x06D0, .b41), (0x0DA0, .b42), (0x0DB0, .b43),
    (0x0540, .b44), (0x0550, .b45), (0x0560, .b46), (0x0570, .b47)] = true := by decide +kernel

theorem test_decode_black_b48_to_b63 :
    tableDecodes .black 16 [(0x0640, .b48), (0x0650, .b49), (0x0520, .b50), (0x0530, .b51),
    (0x0240, .b52), (0x0370, .b53), (0x0380, .b54), (0x0270, .b55),
    (0x0280, .b56), (0x0580, .b57), (0x0590, .b58), (0x02B0, .b59),
    (0x02C0, .b60), (0x05A0, .b61), (0x0660, .b62), (0x0670, .b63)] = true := by decide +kernel

theorem test_decode_black_bm64_to_bm1024 :
    tableDecodes .black 16 [(0x03C0, .bm64), (0x0C80, .bm128), (0x0C90, .bm192), (0x05B0, .bm256),
    (0x0330, .bm320), (0x0340, .bm384), (0x0350, .bm448), (0x0360, .bm512),
    (0x0368, .bm576), (0x0250, .bm640), (0x0258, .bm704), (0x0260, .bm768),
    (0x0268, .bm832), (0x0390, .bm896), (0x0398, .bm960), (0x03A0, .bm1024)] = true := by decide +kernel

theorem test_decode_black_bm1088_to_bm2048 :
    tableDecodes .black 16 [(0x03A8, .bm1088), (0x03B0, .bm1152), (0x03B8, .bm1216), (0x0290, .bm1280),
    (0x0298, .bm1344), (0x02A0, .bm1408), (0x02A8, .bm1472), (0x02D0, .bm1536),
    (0x02D8, .bm1600), (0x0320, .bm1664), (0x0328, .bm1728), (0x0100, .bm1792),
    (0x0180, .bm1856), (0x01A0, .bm1920), (0x0120, .bm1984), (0x0130, .bm2048)] = true := by decide +kernel

theorem test_decode_black_bm2112_to_b_eol :
    tableDecodes .black 16 [(0x0140, .bm2112), (0x0150, .bm2176), (0x0160, .bm2240), (0x0170, .bm2304),
    (0x01C0, .bm2368), (0x01D0, .bm2432), (0x01E0, .bm2496), (0x01F0, .bm2560),
    (0x0010, .bEol)] = true := by decide +kernel

theorem test_decode_mode_eol_at_mode_to_vl3 :
    tableDecodes .mode 12 [(0x001, .eolAtMode), (0x100, .p), (0x200, .h), (0x800, .v0),
    (0x600, .vr1), (0x0C0, .vr2), (0x060, .vr3), (0x400, .vl1),
    (0x080, .vl2), (0x040, .vl3)] = true := by decide +kernel

theorem test_decode_x2d : tableDecodes .mode 12 [(0x020, .x2d 0#5), (0x027, .x2d 7#5), (0x03F, .x2d 31#5)] = true := by decide
theorem test_decode_x1d : tableDecodes .mode 12 [(0x000, .x1d 0#5), (0x002, .x1d 2#5), (0x01F, .x1d 31#5)] = true := by decide
theorem test_decode_tag : tableDecodes .tag 1 [(0x1, .tag1), (0x0, .tag0)] = true := by decide
theorem test_decode_command :
    tableDecodes .command 2 [(0x0, .decodeG31d), (0x1, .decodeG32d), (0x2, .decodeG4), (0x3, .cmdReserved)] = true := by decide
theorem test_decode_leol : tableDecodes .rowStart 12 [(0x001, .leol 11)] = true := by decide

/-! ### Decoding: words written out bit by bit from their rules, with other bits after them -/

/-- `W1` (spec/41_run_length_codes.md R123), with ones after it. -/
theorem test_bits_w1 : decodesTo .white [false, false, false, true, true, true, true, true, true] .w1 = true := by decide
/-- `W0`, at the end of the buffer: the window is zero-padded (spec/20_memory.md R63). -/
theorem test_bits_w0 : decodesTo .white [false, false, true, true, false, true, false, true] .w0 = true := by decide
/-- `WM64` (R186). -/
theorem test_bits_wm64 : decodesTo .white [true, true, false, true, true, false] .wm64 = true := by decide
/-- `B2` (spec/42_black_run_length_codes.md R229). -/
theorem test_bits_b2 : decodesTo .black [true, true, false, false] .b2 = true := by decide
/-- `BM64` (R291). -/
theorem test_bits_bm64 :
    decodesTo .black [false, false, false, false, false, false, true, true, true, true, true] .bm64 = true := by decide
/-- `W_EOL` and `B_EOL` (R226, R331): the same twelve bits, each in its own space. -/
theorem test_bits_eol :
    decodesTo .white (List.replicate 11 false ++ [true]) .wEol = true ∧
      decodesTo .black (List.replicate 11 false ++ [true]) .bEol = true ∧
      decodesTo .mode (List.replicate 11 false ++ [true]) .eolAtMode = true := by decide
/-- `VR2` (spec/43_mode_codes.md R356) and `VL3` (R359). -/
theorem test_bits_vertical :
    decodesTo .mode [false, false, false, false, true, true] .vr2 = true ∧
      decodesTo .mode [false, false, false, false, false, true, false] .vl3 = true := by decide
/-- `X2D` (R360) with the extension bits 111. -/
theorem test_bits_x2d :
    decodesTo .mode [false, false, false, false, false, false, true, true, true, true, false, false] (.x2d 28#5) = true := by
  decide
/-- A leading EOL of 14 zeros, and the forms that are none: 10 zeros, and zeros without a one in the buffer
(spec/47_line_orchestrators.md R464). -/
theorem test_bits_leol :
    decodesTo .rowStart (List.replicate 14 false ++ [true, true]) (.leol 14) = true ∧
      rejects .rowStart (List.replicate 10 false ++ [true]) .noLeadingEol = true ∧
      rejects .rowStart (List.replicate 20 false) .noLeadingEol = true := by decide
/-- Windows that match no entry (R97), and a space without words. -/
theorem test_bits_miss :
    rejects .white (codeBits 16 0x0000) .runLookupMiss = true ∧ rejects .black (codeBits 16 0x00FF) .runLookupMiss = true ∧
      rejects .none [true] .noCodeSpace = true := by decide

/-! ### The host's view of a word -/

theorem test_table_word :
    decodeTableWord 16 0x1C00 = some .w1 ∧ decodeTableWord 16 0x0100 = some .p ∧ decodeTableWord 16 0x0DC0 = some .b0 ∧
      decodeTableWord 8 0x2 = some .decodeG4 := by decide +kernel
theorem test_fetch_word_white : fetches (State.reset.withFetchWord 16 0x1C00) .w1 = true := by decide +kernel
theorem test_fetch_word_black : fetches (State.reset.withFetchWord 16 0x0DC0) .b0 = true := by decide +kernel
theorem test_fetch_word_mode : fetches (State.reset.withFetchWord 16 0x0600) .vr1 = true := by decide +kernel
theorem test_fetch_word_command : fetches (State.reset.withFetchWord 8 0x3) .cmdReserved = true := by decide +kernel

/-! ### Operations -/

theorem test_reset_memory_wf : State.reset.input.wf = true ∧ State.reset.output.wf = true := by decide
/-- Writing what an unlisted address reads as removes the entry. -/
theorem test_write_removes : Memory.write [(1, 0xFF#8), (3, 0xFF#8)] 1 0x00#8 = [(3, 0xFF#8)] := by decide
theorem test_write_between : Memory.write [(1, 0xFF#8), (3, 0xFF#8)] 2 0x01#8 = [(1, 0xFF#8), (2, 0x01#8), (3, 0xFF#8)] := by
  decide
/-- `StreamBit` in both bit orders (spec/20_memory.md R62): the byte 0xC1 read least significant bit first is 0x83 read most significant
bit first (spec/95_test_vectors.md V1D-14). -/
theorem test_stream_bit_order :
    { configured 0#2 1 [0xC1#8] with cfgLsbFirst := true }.peekBits 8 = (configured 0#2 1 [0x83#8]).peekBits 8 := by decide
theorem test_peek_past_end : (configured 0#2 1 [0x83#8]).peek 16 = 0x8300 := by decide
/-- The numbers of the fault codes (spec/60_exceptions.md R491). -/
theorem test_fault_numbers :
    [FaultCode.none, .unsupportedMode, .unsupportedPhotometric, .unsupportedBitsPerSample, .outputTooSmall, .unsupportedExtension,
      .rlLookupMiss, .modeLookupMiss, .unexpectedEol, .missingEol, .missingReference, .overshoot, .negativeRun].map faultNumber =
      List.range 13 := by decide

/-! ### Single steps (spec/95_test_vectors.md; the rows are its W and B strings) -/

/-- V1D-1, its first word `W3`: nothing is black yet, the black run is next. -/
theorem test_step_w3 :
    nextIs (step (running 0#2 1 [0x83#8] .run)) (fun t =>
      decide (t.bitpos = 4 ∧ t.unpacked = 3 ∧ t.color = .black ∧ t.pos = .run)) = true := by decide +kernel
/-- V1D-1, its second word `B5`: the row is WWWBBBBB, ends, and becomes the reference (R36). -/
theorem test_step_b5 :
    nextIs (step { running 0#2 1 [0x83#8] .run with bitpos := 4, unpacked := 3, color := .black }) (fun t =>
      decide (t.bitpos = 8 ∧ t.row = 1 ∧ t.ref = .row 0 ∧ t.pos = .rowStart ∧
        pixels t 0 = [false, false, false, true, true, true, true, true])) = true := by decide +kernel
/-- V1D-5: a run of 9 pixels in a row of 8. -/
theorem test_step_overshoot : faultsWith (step (running 0#2 1 [0xA0#8] .run)) .overshoot = true := by decide +kernel
/-- The makeup word of V1D-8, `WM64`. -/
theorem test_step_wm64 :
    nextIs (step (running 0#2 1 [0xDF#8] .run)) (fun t =>
      decide (t.bitpos = 5 ∧ t.runAcc = 64 ∧ t.unpacked = 0 ∧ t.color = .white)) = true := by decide +kernel
/-- V2D-1: `V0` on the imaginary row ends the row white. -/
theorem test_step_v0 :
    nextIs (step (running 2#2 1 [0x80#8] .mode)) (fun t =>
      decide (t.bitpos = 1 ∧ t.row = 1 ∧ t.ref = .row 0 ∧ t.color = .black ∧ pixels t 0 = List.replicate 8 false)) = true := by
  decide +kernel
/-- V2D-2: `P` does not flip the colour. -/
theorem test_step_p :
    nextIs (step (running 2#2 1 [0x10#8] .mode)) (fun t =>
      decide (t.bitpos = 4 ∧ t.row = 1 ∧ t.color = .white)) = true := by decide +kernel
/-- V2D-3, its first word `H`: the first run is white. -/
theorem test_step_h :
    nextIs (step (running 2#2 1 [0x30#8, 0x60#8] .mode)) (fun t =>
      decide (t.bitpos = 3 ∧ t.pos = .hRun1 ∧ t.codeSpace = .white)) = true := by decide +kernel
/-- V2D-3, its last word `B5`: the row is WWWBBBBB. -/
theorem test_step_horizontal_second_run :
    nextIs (step { running 2#2 1 [0x30#8, 0x60#8] .hRun2 with bitpos := 7, hRun1 := 3 }) (fun t =>
      decide (t.bitpos = 11 ∧ t.row = 1 ∧ pixels t 0 = [false, false, false, true, true, true, true, true])) = true := by
  decide +kernel
/-- V2D-5: `VR1` past the end of the row. -/
theorem test_step_vr1_overshoot : faultsWith (step (running 2#2 1 [0x60#8] .mode)) .overshoot = true := by decide +kernel
/-- V2D-6, its first word `VL1`: the row begins with 7 white pixels. -/
theorem test_step_vl1 :
    nextIs (step (running 2#2 1 [0x50#8] .mode)) (fun t =>
      decide (t.bitpos = 3 ∧ t.unpacked = 7 ∧ t.a0 = 7 ∧ t.a1 = 7 ∧ t.color = .black)) = true := by decide +kernel
/-- V2D-20: the extension escape. -/
theorem test_step_x2d : faultsWith (step (running 2#2 1 [0x02#8] .mode)) .unsupportedExtension = true := by decide +kernel
/-- V2D-19, after `H W3`: no black code begins with these bits. -/
theorem test_step_miss :
    faultsWith (step { running 2#2 1 [0x30#8] .hRun2 with bitpos := 7, hRun1 := 3 }) .rlLookupMiss = true := by
  decide +kernel
/-- The host's write of `CMD_START` after a fault: `BUSY` at once, `FAULT_CODE` cleared, no result readable (R26, R28, R77). -/
theorem test_start_after_fault :
    let s := hostStart { configured 0#2 1 [] with status := .fault, faultCode := .overshoot }
    hostReadStatus s = .busy ∧ s.faultCode = .none ∧ hostReadFaultCode s = none ∧ hostReadOutput 0 s = none := by decide
/-- The configuration reads back as written (spec/60_exceptions.md R499). -/
theorem test_config_read_back :
    (hostConfigure ⟨1#2, true, 1, 1, 8, 0, 2, 16⟩ State.reset).map hostReadConfig = some ⟨1#2, true, 1, 1, 8, 0, 2, 16⟩ := by
  decide
/-- The run sum of `WM64` and then `W6` of V1D-8 (spec/41_run_length_codes.md R121). -/
theorem test_run_sum :
    (running 0#2 1 [0xDF#8] .run).runSum = 64 ∧
      { running 0#2 1 [0xDF#8] .run with bitpos := 5, runAcc := 64 }.runSum = 70 := by decide +kernel
/-- The four values of `CFG_MODE` when `CMD_START` is taken (spec/10_state.md R22, R26, R43). -/
theorem test_step_commands :
    nextIs (step (hostStart (configured 0#2 1 []))) (fun t => decide (t.status = .busy ∧ t.ref = .none)) = true ∧
      nextIs (step (hostStart (configured 1#2 1 []))) (fun t => decide (t.status = .busy ∧ t.ref = .none)) = true ∧
      nextIs (step (hostStart (configured 2#2 1 []))) (fun t => decide (t.status = .busy ∧ t.ref = .imaginary)) = true ∧
      faultsWith (step (hostStart (configured 3#2 1 []))) .unsupportedMode = true := by decide +kernel
/-- The leading EOL in both Group 3 commands, and the tags (spec/47_line_orchestrators.md R465, R470, R471). -/
theorem test_step_leol :
    nextIs (step (running 0#2 1 [0x00#8, 0x18#8] .rowStart)) (fun t =>
        decide (t.bitpos = 12 ∧ t.eolSeen = true ∧ t.pos = .run)) = true ∧
      nextIs (step (running 1#2 1 [0x00#8, 0x18#8] .rowStart)) (fun t => decide (t.bitpos = 12 ∧ t.pos = .tag)) = true ∧
      nextIs (step { running 1#2 1 [0x00#8, 0x18#8] .tag with bitpos := 12 }) (fun t =>
        decide (t.bitpos = 13 ∧ t.pos = .run)) = true ∧
      faultsWith (step { running 1#2 1 [0x00#8, 0x10#8] .tag with bitpos := 12 }) .missingReference = true ∧
      faultsWith (step (running 1#2 1 [0x98#8] .rowStart)) .missingEol = true := by decide +kernel
/-- The EOL at a mode position: the EOFB in Group 4, a fault in Group 3 2-D (R470, R472). -/
theorem test_step_eol_at_mode :
    nextIs (step (running 2#2 2 [0x00#8, 0x10#8] .mode)) (fun t =>
        decide (t.status = .done ∧ t.bitposOut = 0 ∧ pixels t 1 = List.replicate 8 false)) = true ∧
      faultsWith (step { running 1#2 2 [0x00#8, 0x10#8] .mode with ref := .imaginary }) .unexpectedEol = true := by
  decide +kernel
/-- The tolerated final row of Group 3 1-D pads with the colour of the run being decoded (R468). -/
theorem test_step_eol_pads :
    nextIs (step { running 0#2 1 [0x00#8, 0x10#8] .run with unpacked := 3, color := .black }) (fun t =>
      decide (t.status = .done ∧ t.bitposOut = 0 ∧ pixels t 0 = [false, false, false, true, true, true, true, true])) = true := by
  decide +kernel

/-! ### Witnesses: for every statement with hypotheses a state and operands that meet them -/

/-- A white run of a Group 3 1-D row, a mode of a Group 4 row, and both runs of a Horizontal mode. -/
def atRun : State := running 0#2 1 [0x83#8] .run
def atMode : State := running 2#2 1 [0x80#8] .mode
def atHRun1 : State := { running 2#2 1 [0x30#8, 0x60#8] .hRun1 with bitpos := 3 }
def atHRun2 : State := { running 2#2 1 [0x30#8, 0x60#8] .hRun2 with bitpos := 7, hRun1 := 3 }

/-- The second row of a Group 4 image whose first row is WWBBBWWW: a real reference row, with `b1 = 2` and `b2 = 5`. -/
def onRealRow : State :=
  { running 2#2 2 [0x80#8] .mode with row := 1, ref := .row 0, output := [(2, 0xFF#8), (3, 0xFF#8), (4, 0xFF#8)] }

theorem witness_StepKeepsInvariant : atRun.Inv ∧ ∃ t, step atRun = .next t ∧ t.status = .busy := by
  refine ⟨by decide, ?_⟩
  obtain ⟨t, h, hp⟩ := exists_of_nextIs (o := step atRun) (p := fun t => decide (t.status = .busy)) (by decide +kernel)
  exact ⟨t, h, of_decide_eq_true hp⟩
theorem witness_StepNeverStops : onRealRow.Inv := by decide
theorem witness_BusyStepCountsDown : atRun.Inv ∧ atRun.status = .busy ∧ atRun.stepsLeft = 9 := by decide
/-- A start from `IDLE`, from `DONE`, and from `FAULT`. -/
theorem witness_CommandTerminates :
    ((configured 0#2 1 [0x83#8]).Inv ∧ (configured 0#2 1 [0x83#8]).status = .idle) ∧
      (let s := { configured 0#2 1 [0x83#8] with status := .done, bitposOut := 8 }
       s.Inv ∧ s.status ≠ .busy) ∧
      (let s := { configured 0#2 1 [0x83#8] with status := .fault, faultCode := .overshoot }
       s.Inv ∧ s.status ≠ .busy) := ⟨by decide, by decide, by decide⟩
/-- The cursor at the end of the input, at its bound, and a tag at the end of the input. -/
theorem witness_StepKeepsCursorBound :
    let s := { atRun with bitpos := 8 }
    let u := { running 0#2 1 [0x83#8] .rowStart with bitpos := 24, row := 1 }
    let v := { running 1#2 1 [0x83#8] .tag with bitpos := 8 }
    s.cursorInv ∧ nextIs (step s) (fun _ => true) = true ∧ u.cursorInv ∧
      nextIs (step u) (fun t => decide (t.status = .done ∧ t.bitposOut = 24)) = true ∧ v.cursorInv ∧
      nextIs (step v) (fun _ => true) = true := by decide +kernel
theorem witness_StepIgnoresOldOutput :
    let t := { atRun with output := [(5, 0x77#8)] }
    atRun.Inv ∧ t.output.wf = true ∧ atRun.agrees t ∧ atRun ≠ t ∧ nextIs (step atRun) (fun _ => true) = true := by
  refine ⟨by decide, by decide, ⟨by decide, fun a ha => ?_⟩, by decide, by decide +kernel⟩
  exact absurd ha (by simp [State.written, atRun, running, configured, State.reset])
/-- The second word of V1D-1: three white bytes are written. -/
def atB5 : State := { atRun with bitpos := 4, unpacked := 3, color := .black }
theorem witness_StepKeepsImageBytes :
    atB5.Inv ∧ atB5.written = 3 ∧ atB5.imageInv ∧ nextIs (step atB5) (fun t => decide (t.written = 8)) = true := by
  refine ⟨by decide, by decide, fun a _ => .inl rfl, by decide +kernel⟩
theorem witness_StepKeepsConfigAndInput : nextIs (step atRun) (fun _ => true) = true := by decide +kernel
/-- A byte that does not exist in the image, for a step that writes and for one that faults. -/
theorem witness_StepKeepsBytesAboveImage :
    atB5.Inv ∧ nextIs (step atB5) (fun t => decide (t.output.read 7 = 0xFF#8)) = true ∧ atB5.rows * atB5.cfgWidth = 8 ∧
      (running 0#2 1 [0xA0#8] .run).Inv ∧ faultsWith (step (running 0#2 1 [0xA0#8] .run)) .overshoot = true :=
  ⟨by decide, by decide +kernel, by decide, by decide, by decide +kernel⟩
theorem witness_StatusMoves :
    nextIs (step State.reset) (fun t => decide (t.status = .idle)) = true ∧
      nextIs (step { atRun with pos := .rowStart, row := 1 }) (fun t => decide (t.status = .done)) = true ∧
      nextIs (step (hostStart (configured 0#2 1 []))) (fun t => decide (t.status = .busy)) = true ∧
      State.reset.status ≠ .busy := by decide +kernel
theorem witness_CursorNeverGoesBack :
    atRun.status = .busy ∧ atRun.cmdStart = false ∧
      nextIs (step atRun) (fun t => decide (t.status ≠ .fault ∧ t.bitpos = 4)) = true := by decide +kernel
theorem witness_DecodeOfEncode : Instr.wf (.leol 11) = true ∧ Instr.wf (.x1d 31#5) = true ∧ Instr.wf .bm2560 = true := by decide
/-- Fewer bits than the window, and a word with bits after it. -/
theorem witness_DecodedWordStandsThere :
    decode .mode [true] = .ok .v0 ∧ decode .rowStart (List.replicate 11 false ++ [true, false]) = .ok (.leol 11) := ⟨rfl, rfl⟩
/-- Windows at the edges of the missing range. -/
theorem witness_RunLookupMissWindows :
    runLookup (runTable .white) 0 = none ∧ runLookup (runTable .white) 15 = none ∧
      (runLookup (runTable .white) 16).isSome = true ∧ (runLookup (runTable .black) 31).isSome = true ∧
      runLookup (runTable .black) 32 = none ∧ runLookup (runTable .black) 255 = none ∧
      (runLookup (runTable .black) 256).isSome = true ∧ (runLookup (runTable .white) 65535).isSome = true := by decide +kernel
theorem witness_StepRunsFetchedWord :
    (atRun.awake = true ∧ atRun.fetch = .ok .w3) ∧
      ((running 2#2 1 [] .rowStart).awake = true ∧ (running 2#2 1 [] .rowStart).fetch = .error .noCodeSpace) ∧
      State.reset.awake = false :=
  ⟨⟨by decide, fetch_of_fetches (by decide +kernel)⟩, ⟨by decide, fetch_of_fetchesNone (by decide)⟩, by decide⟩
theorem witness_StepRunsWordAtCursor :
    Instr.wf .w3 = true ∧ atRun.status = .busy ∧ atRun.cmdStart = false ∧ atRun.codeSpace = Instr.space .w3 ∧
      atRun.peekBits (encode .w3).length = encode .w3 := by decide
theorem witness_StepStartsSelectedCommand :
    [0#2, 1#2, 2#2, 3#2].all (fun m => let s := configured m 1 []
      decide (s.status ≠ .busy) && decide (s.cfgMode = m)) = true := by decide
/-- The last bit of the input and the first past it, in both bit orders. -/
theorem witness_StreamBitOrder :
    let s := configured 0#2 1 [0xC1#8]
    let u := { s with cfgLsbFirst := true }
    8 * s.inLen ≤ 8 ∧ 7 < 8 * s.inLen ∧ s.cfgLsbFirst = false ∧ s.streamBit 7 = true ∧ s.streamBit 8 = false ∧
      u.cfgLsbFirst = true ∧ u.streamBit 7 = true ∧ u.streamBit 5 = false := by decide
theorem witness_PeekIsLeftJustified : 8 * atRun.inLen ≤ { atRun with bitpos := 8 }.bitpos := by decide
theorem witness_AlignByteRoundsUp :
    { atRun with bitpos := 8 }.alignByte.bitpos = 8 ∧ { atRun with bitpos := 9 }.alignByte.bitpos = 16 ∧
      { atRun with bitpos := 15 }.alignByte.bitpos = 16 := by decide
/-- The whole row, and an empty range. -/
theorem witness_FillWritesItsBytes :
    atRun.output.wf = true ∧ 0 * atRun.cfgWidth + 8 ≤ atRun.outCap ∧
      nextIs (fill 0 0 8 .black atRun) (fun t => decide (t.output.read 7 = 0xFF#8)) = true ∧
      nextIs (fill 0 5 2 .black atRun) (fun t => decide (t = atRun)) = true := by decide
theorem witness_ColourBytes :
    atRun.cfgPhotometric = 0 ∧ { atRun with cfgPhotometric := 1 }.byteOf .white = 0xFF#8 ∧
      (let s := { configured 0#2 1 [] with cfgPhotometric := 2 }
       1 < s.cfgPhotometric ∧ s.cfgMode ≠ 3#2 ∧ (hostStart s).codeSpace = .command) := by decide
theorem witness_FindB1IsLeast :
    onRealRow.ref = .row 0 ∧ onRealRow.findB1 (-1) .white = 2 ∧ onRealRow.findB1 2 .white = 8 ∧
      onRealRow.findB1 (-1) .black = 5 := by decide
theorem witness_FindB2IsLeast : onRealRow.ref = .row 0 ∧ onRealRow.findB2 2 = 5 ∧ onRealRow.findB2 5 = 8 := by decide
theorem witness_ImaginaryRowHasNoChange : atMode.ref = .imaginary := by decide
theorem witness_SearchStaysInOrder : onRealRow.ref ≠ .none ∧ (0 : Int) ≤ 8 ∧ (8 : Int) ≤ onRealRow.cfgWidth := by decide
theorem witness_MakeupWordAddsRun :
    RunEntry.mk .bm2560 0b000000011111 12 2560 .makeup ∈ runTable .black ∧
      { atRun with color := .black }.codeSpace = runSpace .black := by decide +kernel
theorem witness_TerminatingWordContinuesRow :
    RunEntry.mk .w3 0b1000 4 3 .terminating ∈ runTable .white ∧ atRun.status = .busy ∧ atRun.cmdStart = false ∧ atRun.pos = .run ∧ atRun.color = .white ∧
      atRun.unpacked + (atRun.runAcc + 3) < atRun.cfgWidth ∧ (atRun.row + 1) * atRun.cfgWidth ≤ atRun.outCap := by decide +kernel
/-- In Group 3 1-D, with and without the row's leading EOL, and in Group 3 2-D. -/
theorem witness_TerminatingWordEndsRow :
    RunEntry.mk .b5 0b0011 4 5 .terminating ∈ runTable .black ∧
      [atB5, { atB5 with eolSeen := true }, { atB5 with cfgMode := 1#2 }].all (fun s =>
        decide (s.status = .busy ∧ s.cmdStart = false ∧ s.pos = .run ∧ s.color = .black ∧ s.unpacked + (s.runAcc + 5) = s.cfgWidth ∧
          (s.row + 1) * s.cfgWidth ≤ s.outCap)) = true := by decide +kernel
theorem witness_OvershootingRunFaults :
    RunEntry.mk .w9 0b10100 5 9 .terminating ∈ runTable .white ∧ atRun.status = .busy ∧ atRun.cmdStart = false ∧ atRun.pos = .run ∧
      atRun.color = .white ∧ atRun.cfgWidth < atRun.unpacked + (atRun.runAcc + 9) := by decide +kernel
theorem witness_FirstHorizontalRunIsHeld :
    RunEntry.mk .w3 0b1000 4 3 .terminating ∈ runTable .white ∧ atHRun1.status = .busy ∧ atHRun1.cmdStart = false ∧ atHRun1.pos = .hRun1 ∧
      atHRun1.color = .white := by decide +kernel
/-- The runs 3 and 5 end the row, 3 and 4 do not, 3 and 6 overshoot. -/
theorem witness_SecondHorizontalRunFills :
    RunEntry.mk .b5 0b0011 4 5 .terminating ∈ runTable Colour.white.opp ∧
      RunEntry.mk .b4 0b011 3 4 .terminating ∈ runTable Colour.white.opp ∧
      RunEntry.mk .b6 0b0010 4 6 .terminating ∈ runTable Colour.white.opp ∧
      atHRun2.status = .busy ∧ atHRun2.cmdStart = false ∧ atHRun2.pos = .hRun2 ∧ atHRun2.color = .white ∧
      (atHRun2.row + 1) * atHRun2.cfgWidth ≤ atHRun2.outCap ∧ atHRun2.cfgMode ≠ 0#2 ∧
      atHRun2.unpacked + atHRun2.hRun1 + (atHRun2.runAcc + 4) < atHRun2.cfgWidth ∧
      atHRun2.unpacked + atHRun2.hRun1 + (atHRun2.runAcc + 5) = atHRun2.cfgWidth ∧
      atHRun2.cfgWidth < atHRun2.unpacked + atHRun2.hRun1 + (atHRun2.runAcc + 6) := by decide +kernel
/-- On the last row of Group 3 1-D, on an earlier row, and in a Horizontal mode. -/
theorem witness_EolWordPadsOrFaults :
    RunEntry.mk .wEol 0b000000000001 12 0 .endOfLine ∈ runTable .white ∧ atRun.codeSpace = runSpace .white ∧
      (atRun.cfgMode = 0#2 ∧ atRun.pos = .run ∧ atRun.row + 1 = atRun.rows ∧
        (atRun.row + 1) * atRun.cfgWidth ≤ atRun.outCap) ∧
      (let s := { atRun with cfgReq := 2 }
       s.codeSpace = runSpace .white ∧ ¬ (s.cfgMode = 0#2 ∧ s.pos = .run ∧ s.row + 1 = s.rows)) ∧
      atHRun1.codeSpace = runSpace .white ∧ ¬ (atHRun1.cfgMode = 0#2 ∧ atHRun1.pos = .run ∧ atHRun1.row + 1 = atHRun1.rows) := by
  decide +kernel
theorem witness_LookupMissPadsOrFaults :
    (let s := running 0#2 1 [0x00#8] .run
     s.codeSpace = runSpace .white ∧ runLookup (runTable .white) (s.peek 16) = none ∧ s.cmdStart = false ∧ s.cfgMode = 0#2 ∧
       s.pos = .run ∧ s.row + 1 = s.rows ∧ (s.row + 1) * s.cfgWidth ≤ s.outCap) ∧
      (let s := running 2#2 1 [0x00#8] .hRun2
       s.codeSpace = runSpace .black ∧ runLookup (runTable .black) (s.peek 16) = none ∧ s.cmdStart = false ∧
         ¬ (s.cfgMode = 0#2 ∧ s.pos = .run ∧ s.row + 1 = s.rows)) := by decide +kernel
/-- `VR1` on the imaginary row overshoots; `VL3` on the real row goes left of `UNPACKED`. -/
theorem witness_VerticalModeFaults :
    (atMode.codeSpace = .mode ∧ atMode.refProblem = none ∧ (atMode.cfgWidth : Int) < atMode.findB1 atMode.a0 atMode.color + 1) ∧
      (onRealRow.codeSpace = .mode ∧ onRealRow.refProblem = none ∧
        (onRealRow.findB1 onRealRow.a0 onRealRow.color : Int) + (-3) < onRealRow.unpacked) := by decide
/-- `VL2` on the real row reaches exactly `UNPACKED`, `VR3` exactly `b2`, `VL1` on the imaginary row the last pixel. -/
theorem witness_VerticalModeContinuesRow :
    onRealRow.codeSpace = .mode ∧ onRealRow.refProblem = none ∧ (onRealRow.row + 1) * onRealRow.cfgWidth ≤ onRealRow.outCap ∧
      (onRealRow.findB1 onRealRow.a0 onRealRow.color : Int) + (-2) = onRealRow.unpacked ∧
      (onRealRow.findB1 onRealRow.a0 onRealRow.color : Int) + 3 < onRealRow.cfgWidth ∧
      atMode.codeSpace = .mode ∧ atMode.refProblem = none ∧ (atMode.row + 1) * atMode.cfgWidth ≤ atMode.outCap ∧
      (atMode.findB1 atMode.a0 atMode.color : Int) + (-1) = 7 ∧ atMode.cfgWidth = 8 := by decide
theorem witness_VerticalModeEndsRow :
    atMode.codeSpace = .mode ∧ atMode.refProblem = none ∧ atMode.cfgMode ≠ 0#2 ∧
      (atMode.row + 1) * atMode.cfgWidth ≤ atMode.outCap ∧ atMode.unpacked ≤ atMode.cfgWidth ∧
      (atMode.findB1 atMode.a0 atMode.color : Int) + 0 = atMode.cfgWidth := by decide
theorem witness_PassFillsToB2 :
    onRealRow.codeSpace = .mode ∧ onRealRow.refProblem = none ∧ onRealRow.cfgMode ≠ 0#2 ∧
      (onRealRow.row + 1) * onRealRow.cfgWidth ≤ onRealRow.outCap ∧
      onRealRow.findB2 (onRealRow.findB1 onRealRow.a0 onRealRow.color) < onRealRow.cfgWidth ∧
      atMode.codeSpace = .mode ∧ atMode.refProblem = none ∧ (atMode.row + 1) * atMode.cfgWidth ≤ atMode.outCap ∧
      atMode.findB2 (atMode.findB1 atMode.a0 atMode.color) = atMode.cfgWidth := by decide
theorem witness_HorizontalBeginsFirstRun : atMode.codeSpace = .mode ∧ atMode.refProblem = none := by decide
theorem witness_ExtensionFaults : atMode.codeSpace = .mode := by decide
theorem witness_EolAtModeEndsCommand :
    (let s := { atMode with cfgMode := 1#2 }
     s.codeSpace = .mode ∧ s.cfgMode = 1#2) ∧
      (atMode.codeSpace = .mode ∧ atMode.cfgMode = 2#2 ∧ atMode.output.wf = true ∧ atMode.row < atMode.rows ∧
        atMode.unpacked ≤ atMode.cfgWidth ∧ atMode.rows * atMode.cfgWidth ≤ atMode.outCap) := by decide
/-- The shortest leading EOL, ending with the last bit of the buffer, and the same with one zero fewer. -/
theorem witness_LeadingEolIsRecognised :
    (let s := { running 0#2 1 [0x00#8, 0x01#8] .rowStart with bitpos := 4 }
     s.codeSpace = .rowStart ∧ fetches s (.leol 11) = true) ∧
      (let s := { running 0#2 1 [0x00#8, 0x01#8] .rowStart with bitpos := 5 }
       s.codeSpace = .rowStart ∧ fetchesNone s .noLeadingEol = true) := by decide
theorem witness_LeadingEolIsConsumed :
    (let s := running 0#2 1 [] .rowStart
     s.codeSpace = .rowStart ∧ s.cfgMode = 0#2 ∧ 0 < s.cfgWidth) ∧
      (let s := { running 0#2 1 [] .rowStart with cfgWidth := 0 }
       s.codeSpace = .rowStart ∧ s.cfgMode = 0#2 ∧ s.cfgWidth = 0) ∧
      (let s := running 1#2 1 [] .rowStart
       s.codeSpace = .rowStart ∧ s.cfgMode = 1#2) := by decide
theorem witness_RowWithoutLeadingEol :
    (let s := running 0#2 1 [0x83#8] .rowStart
     s.codeSpace = .rowStart ∧ s.cmdStart = false ∧ fetchesNone s .noLeadingEol = true ∧ s.cfgMode = 0#2 ∧ 0 < s.cfgWidth) ∧
      (let s := { running 0#2 1 [0x83#8] .rowStart with cfgWidth := 0 }
       s.codeSpace = .rowStart ∧ s.cmdStart = false ∧ fetchesNone s .noLeadingEol = true ∧ s.cfgMode = 0#2 ∧ s.cfgWidth = 0) ∧
      (let s := running 1#2 1 [0x83#8] .rowStart
       s.codeSpace = .rowStart ∧ s.cmdStart = false ∧ fetchesNone s .noLeadingEol = true ∧ s.cfgMode = 1#2) := by decide
theorem witness_TagSelectsRow :
    (let s := running 1#2 1 [] .tag
     s.status = .busy ∧ s.cmdStart = false ∧ s.pos = .tag ∧ s.cfgMode = 1#2 ∧ 0 < s.cfgWidth ∧ s.ref = .none) ∧
      (let s := { running 1#2 2 [] .tag with ref := .row 0, row := 1 }
       s.status = .busy ∧ s.cmdStart = false ∧ s.pos = .tag ∧ s.cfgMode = 1#2 ∧ 0 < s.cfgWidth ∧ s.ref ≠ .none) ∧
      (let s := { running 1#2 2 [] .tag with ref := .row 0, row := 1, cfgWidth := 0 }
       s.status = .busy ∧ s.cmdStart = false ∧ s.pos = .tag ∧ s.cfgMode = 1#2 ∧ s.cfgWidth = 0 ∧ s.ref ≠ .none) := by decide
theorem witness_RowLoopBeginsOrEnds :
    (let s := running 2#2 1 [] .rowStart
     s.status = .busy ∧ s.cmdStart = false ∧ s.pos = .rowStart ∧ s.row < s.rows ∧ s.cfgMode = 2#2 ∧ 0 < s.cfgWidth) ∧
      (let s := { running 2#2 1 [] .rowStart with cfgWidth := 0 }
       s.status = .busy ∧ s.cmdStart = false ∧ s.pos = .rowStart ∧ s.row < s.rows ∧ s.cfgMode = 2#2 ∧ s.cfgWidth = 0) ∧
      (let s := { running 0#2 1 [] .rowStart with row := 1 }
       s.status = .busy ∧ s.cmdStart = false ∧ s.pos = .rowStart ∧ s.rows ≤ s.row) := by decide
/-- The output space exactly as large as the image. -/
theorem witness_CommandBegins :
    (Instr.decodeG4, 2#2, RefSel.imaginary) ∈
        [(Instr.decodeG31d, 0#2, RefSel.none), (.decodeG32d, 1#2, .none), (.decodeG4, 2#2, .imaginary)] ∧
      (let s := hostStart (configured 2#2 3 [])
       s.codeSpace = .command ∧ s.cfgMode = 2#2 ∧ s.cfgPhotometric ≤ 1 ∧ s.cfgBps = 1 ∧
         s.cfgWidth * (s.cfgSkip + s.cfgReq) = s.outCap) := by decide
theorem witness_CommandChecksInOrder :
    (let s := hostStart (configured 3#2 1 [])
     s.codeSpace = .command ∧ s.cfgMode = 3#2) ∧
      (let s := hostStart { configured 1#2 1 [] with cfgPhotometric := 2 }
       s.codeSpace = .command ∧ s.cfgMode = 1#2 ∧ 1 < s.cfgPhotometric) ∧
      (let s := hostStart { configured 2#2 1 [] with cfgPhotometric := 1, cfgBps := 0 }
       s.codeSpace = .command ∧ s.cfgMode = 2#2 ∧ s.cfgPhotometric ≤ 1 ∧ s.cfgBps ≠ 1) ∧
      (let s := hostStart { configured 0#2 1 [] with outCap := 7 }
       s.codeSpace = .command ∧ s.cfgMode = 0#2 ∧ s.cfgPhotometric ≤ 1 ∧ s.cfgBps = 1 ∧
         s.outCap < s.cfgWidth * (s.cfgSkip + s.cfgReq)) := by decide
theorem witness_StartWriteSetsBusyOrIsIgnored :
    atRun.status = .busy ∧ { atRun with status := .done }.status ≠ .busy ∧
      (hostStart { atRun with status := .done }).status = .busy := by decide
theorem witness_HostWaitsWhileBusy :
    hostReadStatus (hostStart { atRun with status := .done }) = .busy ∧ atRun.status = .busy := by decide
theorem witness_AbortKeepsWhatSurvives : atB5.output.wf = true ∧ atB5.rows * atB5.cfgWidth ≤ 8 := by decide
theorem witness_HardResetLeavesBuffers :
    atB5.output.wf = true ∧ atB5.rows * atB5.cfgWidth ≤ 8 ∧ State.reset.status ≠ .busy := by decide
/-- A terminating word in a 1-D row, in the first and in the second run of a Horizontal mode; a makeup word; an EOL word. -/
theorem witness_RunWordRegisterFrame :
    RunEntry.mk .w3 0b1000 4 3 .terminating ∈ runTable .white ∧ RunEntry.mk .b5 0b0011 4 5 .terminating ∈ runTable .black ∧
      RunEntry.mk .wm64 0b11011 5 64 .makeup ∈ runTable .white ∧
      RunEntry.mk .wEol 0b000000000001 12 0 .endOfLine ∈ runTable .white ∧
      nextIs (exec .w3 atRun) (fun t => decide (t.status ≠ .fault ∧ t.unpacked < atRun.cfgWidth)) = true ∧
      nextIs (exec .w3 atHRun1) (fun t => decide (t.status ≠ .fault)) = true ∧
      nextIs (exec .b5 atHRun2) (fun t => decide (t.status ≠ .fault)) = true ∧
      nextIs (exec .wm64 atRun) (fun t => decide (t.status ≠ .fault)) = true ∧
      nextIs (exec .wEol atRun) (fun t => decide (t.status ≠ .fault)) = true := by decide +kernel
/-- The last byte before the stored ones of `B5` in V1D-1, and the first after them. -/
theorem witness_RunWordMemoryFrame :
    RunEntry.mk .b5 0b0011 4 5 .terminating ∈ runTable .black ∧ atB5.output.wf = true ∧
      nextIs (exec .b5 atB5) (fun t => decide (t.status ≠ .fault)) = true ∧
      2 < atB5.row * atB5.cfgWidth + atB5.unpacked ∧
      atB5.row * atB5.cfgWidth + atB5.unpacked + (atB5.runAcc + 5) ≤ 8 := by decide +kernel
theorem witness_ModeWordFrame :
    onRealRow.output.wf = true ∧ onRealRow.row < onRealRow.rows ∧ onRealRow.unpacked ≤ onRealRow.cfgWidth ∧
      [Instr.p, .h, .v0, .vr1, .vr2, .vr3, .vl1, .vl2, .eolAtMode].all (fun i =>
        nextIs (exec i onRealRow) (fun t => decide (t.status ≠ .fault))) = true ∧
      nextIs (exec .vl3 atMode) (fun t => decide (t.status ≠ .fault)) = true := by decide +kernel
theorem witness_RowWordFrame :
    nextIs (exec (.leol 11) (running 0#2 1 [] .rowStart)) (fun t => decide (t.status ≠ .fault)) = true ∧
      nextIs (exec .tag1 (running 1#2 1 [] .tag)) (fun t => decide (t.status ≠ .fault)) = true ∧
      nextIs (exec .tag0 { running 1#2 2 [] .tag with ref := .row 0, row := 1 }) (fun t => decide (t.status ≠ .fault)) = true := by
  decide +kernel

end Sys2Proof.Tests
end

section
/-! PROOFS. What one step can do, said once. `StepOp` names the operation with which the engine answers the bits of each code space,
`RunningStep` every next state that such an operation has in a running command, and `step_cases` reads both off `step`. -/

namespace Sys2Proof.Machine

variable {s t : State} {op : State → Result} {bits : List Bool} {sp : CodeSpace}

/-! ### The operation that answers the bits at the cursor -/

/-- The engine's answer to what the decoder found. -/
def answer : Except DecodeError Instr → State → Result
  | .ok i => exec i
  | .error e => noWord e

theorem step_eq_answer (h : s.awake = true) : step s = answer s.fetch s := by
  rw [step_awake h]
  cases s.fetch <;> rfl

/-- The operations that answer `bits` in each code space (spec/30_encoding.md R92), with the lengths of R91. -/
inductive StepOp (bits : List Bool) : CodeSpace → (State → Result) → Prop
  | start (k : Command) : StepOp bits .command (startCommand k)
  | runWord (c : Colour) (n run : Nat) (k : RunKind) (hn : 1 ≤ n ∧ n ≤ 13) : StepOp bits (runSpace c) (runWord c n run k)
  | runMiss (c : Colour) : StepOp bits (runSpace c) (noWord .runLookupMiss)
  | vertical (n : Nat) (d : Int) (hn : 1 ≤ n ∧ n ≤ 7) : StepOp bits .mode (modeWord n (vertical d))
  | pass : StepOp bits .mode (modeWord 4 pass)
  | horizontal : StepOp bits .mode (modeWord 3 horizontal)
  | extension : StepOp bits .mode extension
  | eolAtMode : StepOp bits .mode execEolAtMode
  | modeMiss : StepOp bits .mode (noWord .modeLookupMiss)
  | leol (zeros : Nat) (hz : zeros < bits.length) (h11 : 11 ≤ zeros) : StepOp bits .rowStart (execLeol zeros)
  | noLeadingEol : StepOp bits .rowStart (noWord .noLeadingEol)
  | tag1 : StepOp bits .tag execTag1
  | tag0 : StepOp bits .tag execTag0
  | noCodeSpace : StepOp bits .none (noWord .noCodeSpace)

theorem runTable_bitsRequired (c : Colour) : ∀ e ∈ runTable c, 1 ≤ e.bitsRequired ∧ e.bitsRequired ≤ 13 := by
  cases c <;> decide

theorem exec_commandInstr (k : Command) : exec (commandInstr k) = startCommand k := by
  cases k <;> rfl

theorem stepOp_runWindow (bits : List Bool) (c : Colour) (w : Nat) :
    StepOp bits (runSpace c) (answer (decodeRunWindow (runTable c) w)) := by
  unfold decodeRunWindow
  cases h : runLookup (runTable c) w with
  | none => exact .runMiss c
  | some e =>
    have he : e ∈ runTable c := List.mem_of_find?_eq_some h
    have hexec : exec e.instr = runWord c e.bitsRequired e.runLength e.kind := funext (runTable_meaning c e he)
    simpa only [answer, hexec] using StepOp.runWord c _ e.runLength e.kind (runTable_bitsRequired c e he)

theorem stepOp_modeInstr (bits : List Bool) (ext : BitVec 5) (m : Mode) : StepOp bits .mode (exec (modeInstr ext m)) := by
  cases m with
  | pass => exact .pass
  | horizontal => exact .horizontal
  | vertical0 => exact .vertical 1 0 (by decide)
  | verticalR1 => exact .vertical 3 1 (by decide)
  | verticalR2 => exact .vertical 6 2 (by decide)
  | verticalR3 => exact .vertical 7 3 (by decide)
  | verticalL1 => exact .vertical 3 (-1) (by decide)
  | verticalL2 => exact .vertical 6 (-2) (by decide)
  | verticalL3 => exact .vertical 7 (-3) (by decide)
  | extension2D => exact .extension
  | extension1D => exact .extension

theorem stepOp_modeWindow (bits : List Bool) (w : Nat) : StepOp bits .mode (answer (decodeModeWindow w)) := by
  unfold decodeModeWindow
  split
  · exact .eolAtMode
  · cases modeLookup (w >>> 5) with
    | none => exact .modeMiss
    | some e => exact stepOp_modeInstr bits _ e.mode

theorem stepOp_leadingEol (bits : List Bool) : StepOp bits .rowStart (answer (decodeLeadingEol bits)) := by
  unfold decodeLeadingEol
  dsimp only
  split
  · rename_i h
    exact .leol _ h.1 h.2
  · exact .noLeadingEol

/-- The decoder finds an operation of the code space, whatever the bits. -/
theorem stepOp_decode (sp : CodeSpace) (bits : List Bool) : StepOp bits sp (answer (decode sp bits)) := by
  cases sp with
  | command =>
    simp only [decode, answer, exec_commandInstr]
    exact .start _
  | rowStart => exact stepOp_leadingEol bits
  | tag =>
    simp only [decode, decodeTag]
    split
    · exact .tag1
    · exact .tag0
  | white => exact stepOp_runWindow bits .white _
  | black => exact stepOp_runWindow bits .black _
  | mode => exact stepOp_modeWindow bits _
  | none => exact .noCodeSpace

/-- The operation of a step is one of its code space, and it is the operation of every state with the same fetch. -/
theorem step_op (s : State) :
    ∃ op, StepOp s.fetchBits s.codeSpace op ∧ ∀ u : State, u.awake = true → u.fetch = s.fetch → step u = op u :=
  ⟨answer s.fetch, stepOp_decode _ _, fun u hu hf => by rw [step_eq_answer hu, hf]⟩

/-! ### The next states of a running command -/

/-- A finished run of a 1-D row is filled and the colour flips (spec/45_one_dimensional.md R401). -/
def State.afterRun1D (s : State) : State :=
  { s.filled s.row s.unpacked (s.unpacked + s.runAcc) s.color with
    unpacked := s.unpacked + s.runAcc, color := s.color.opp }

/-- Both runs of a Horizontal mode are filled (spec/46_two_dimensional.md R423). -/
def State.afterRuns2D (s : State) : State :=
  { (s.filled s.row s.unpacked (s.unpacked + s.hRun1) s.color).filled s.row (s.unpacked + s.hRun1)
      (s.unpacked + s.hRun1 + s.runAcc) s.color.opp with
    unpacked := s.unpacked + s.hRun1 + s.runAcc
    a0 := ((s.unpacked + s.hRun1 + s.runAcc : Nat) : Int) }

/-- A mode word of `n` bits is consumed and `B1` found (R420). -/
def State.searched (s : State) (n : Nat) : State :=
  { s.advance n with b1 := ((s.findB1 s.a0 s.color : Nat) : Int) }

/-- A Vertical mode has filled up to its target (R424). -/
def State.afterVertical (s : State) (d : Int) : State :=
  { s.filled s.row s.unpacked (s.b1 + d).toNat s.color with
    a1 := s.b1 + d, unpacked := (s.b1 + d).toNat, a0 := s.b1 + d, color := s.color.opp }

/-- A Pass has filled up to `B2` (R422). -/
def State.afterPass (s : State) : State :=
  { s.filled s.row s.unpacked (s.findB2 s.b1) s.color with
    b2 := ((s.findB2 s.b1 : Nat) : Int), unpacked := s.findB2 s.b1, a0 := ((s.findB2 s.b1 : Nat) : Int) }

/-- The next states of a running command whose start sequence has run. -/
inductive RunningStep (s : State) : State → Prop
  | abort (code : FaultCode) (hc : code ≠ .none) : RunningStep s (s.abort code)
  | finish (hp : s.pos = .rowStart) (hr : s.rows ≤ s.row) : RunningStep s s.finish
  | padRow (ht : s.toleratesRunStop = true) :
      RunningStep s (s.filled s.row s.unpacked s.cfgWidth s.color).finish
  | padImage (hp : s.pos = .mode) (hc : s.command = .g4) :
      RunningStep s ((s.filled s.row s.unpacked s.cfgWidth .white).filled 0 ((s.row + 1) * s.cfgWidth)
        (s.rows * s.cfgWidth) .white).finish
  | makeup (n run : Nat) (hn : 1 ≤ n ∧ n ≤ 13) (hp : s.pos = .run ∨ s.pos = .hRun1 ∨ s.pos = .hRun2) :
      RunningStep s (s.addRun n run)
  | run1D (n run : Nat) (hn : 1 ≤ n ∧ n ≤ 13) (hp : s.pos = .run) (hle : s.unpacked + (s.runAcc + run) ≤ s.cfgWidth) :
      RunningStep s (s.addRun n run).afterRun1D.loop1D
  | firstRun (n run : Nat) (hn : 1 ≤ n ∧ n ≤ 13) (hp : s.pos = .hRun1) : RunningStep s (s.addRun n run).endHRun1
  | secondRun (n run : Nat) (hn : 1 ≤ n ∧ n ≤ 13) (hp : s.pos = .hRun2)
      (hle : s.unpacked + s.hRun1 + (s.runAcc + run) ≤ s.cfgWidth) :
      RunningStep s (s.addRun n run).afterRuns2D.loop2D
  | vertical (n : Nat) (d : Int) (hn : 1 ≤ n ∧ n ≤ 7) (hp : s.pos = .mode) (hle : (s.searched n).b1 + d ≤ s.cfgWidth)
      (hge : (s.unpacked : Int) ≤ (s.searched n).b1 + d) :
      RunningStep s ((s.searched n).afterVertical d).loop2D
  | pass (hp : s.pos = .mode) : RunningStep s (s.searched 4).afterPass.loop2D
  | horizontal (hp : s.pos = .mode) : RunningStep s ((s.searched 3).enterRun .hRun1)
  | leol1D (zeros : Nat) (hz : s.bitpos + zeros < 8 * s.inLen) (hp : s.pos = .rowStart) (hr : s.row < s.rows)
      (hc : s.command = .g31d) :
      RunningStep s { s.advance (zeros + 1) with eolSeen := true }.beginLine1D
  | leol2D (zeros : Nat) (hz : s.bitpos + zeros < 8 * s.inLen) (hp : s.pos = .rowStart) (hr : s.row < s.rows)
      (hc : s.command = .g32d) :
      RunningStep s { s.advance (zeros + 1) with pos := .tag }
  | noEol1D (hp : s.pos = .rowStart) (hr : s.row < s.rows) (hc : s.command = .g31d) :
      RunningStep s { s with eolSeen := false }.beginLine1D
  | rowG4 (hp : s.pos = .rowStart) (hr : s.row < s.rows) (hc : s.command = .g4) : RunningStep s s.beginLine2D
  | tag1 (hp : s.pos = .tag) : RunningStep s (s.advance 1).beginLine1D
  | tag0 (hp : s.pos = .tag) (hr : s.ref ≠ .none) : RunningStep s (s.advance 1).beginLine2D

theorem pos_of_modeSpace (h : s.codeSpace = .mode) : s.pos = .mode := (codeSpace_eq_mode.mp h).2.2

theorem pos_of_tagSpace (h : s.codeSpace = .tag) : s.pos = .tag := (codeSpace_eq_tag.mp h).2.2

theorem pos_of_runSpace {c : Colour} (h : s.codeSpace = runSpace c) : s.pos = .run ∨ s.pos = .hRun1 ∨ s.pos = .hRun2 := by
  obtain ⟨-, -, hp⟩ := codeSpace_eq_runSpace.mp h
  exact hp.imp And.left (Or.imp And.left And.left)

theorem toleratesRunStop_iff : s.toleratesRunStop = true ↔ s.command = .g31d ∧ s.pos = .run ∧ s.row + 1 = s.rows := by
  simp [State.toleratesRunStop, and_assoc]

theorem runStop_running {code : FaultCode} (hc : code ≠ .none) (h : runStop code s = .next t) : RunningStep s t := by
  obtain ⟨-, rfl⟩ | ⟨ht, rfl⟩ := runStop_cases h
  · exact .abort code hc
  · exact .padRow ht

theorem runWord_running {c : Colour} {n run : Nat} {k : RunKind} (hn : 1 ≤ n ∧ n ≤ 13)
    (h : runWord c n run k s = .next t) : RunningStep s t := by
  obtain ⟨hsp, ⟨-, rfl⟩ | ⟨-, h⟩ | ⟨-, h⟩⟩ := runWord_cases h
  · exact .makeup n run hn (pos_of_runSpace hsp)
  · obtain hp | hp | hp := pos_of_runSpace hsp <;> simp only [endRun, State.addRun_pos, hp] at h
    · obtain ⟨-, rfl⟩ | ⟨hle, rfl⟩ := endRun1D_cases h
      · exact .abort .overshoot (by decide)
      · exact .run1D n run hn hp hle
    · cases h
      exact .firstRun n run hn hp
    · obtain ⟨-, rfl⟩ | ⟨hle, rfl⟩ := endHRun2_cases h
      · exact .abort .overshoot (by decide)
      · exact .secondRun n run hn hp hle
  · exact runStop_running (by decide) h

theorem modeWord_next {n : Nat} (h : modeWord n op s = .next t) : s.pos = .mode ∧ op (s.searched n) = .next t := by
  obtain ⟨hsp, -, h⟩ := modeWord_cases h
  exact ⟨pos_of_modeSpace hsp, h⟩

theorem vertical_running {n : Nat} {d : Int} (hn : 1 ≤ n ∧ n ≤ 7) (h : modeWord n (vertical d) s = .next t) :
    RunningStep s t := by
  obtain ⟨hp, h⟩ := modeWord_next h
  obtain ⟨-, rfl⟩ | ⟨-, -, rfl⟩ | ⟨hle, hge, rfl⟩ := vertical_cases h
  · exact .abort .overshoot (by decide)
  · exact .abort .negativeRun (by decide)
  · exact .vertical n d hn hp hle hge

theorem extension_running (h : extension s = .next t) : RunningStep s t := by
  unfold extension at h
  split at h <;> cases h
  exact .abort _ (by decide)

theorem eolAtMode_running (h : execEolAtMode s = .next t) : RunningStep s t := by
  unfold execEolAtMode at h
  split at h
  · rename_i hsp
    cases hc : s.command <;> rw [hc] at h
    case g4 =>
      obtain rfl := padEofb_cases h
      exact .padImage (pos_of_modeSpace hsp) hc
    all_goals
      cases h
      exact .abort .unexpectedEol (by decide)
  · cases h

theorem leol_running {zeros : Nat} (hz : zeros < s.bitsToEnd.length) (h : execLeol zeros s = .next t) : RunningStep s t := by
  unfold execLeol at h
  split at h <;> cases h
  rename_i hsp
  obtain ⟨-, -, hp, hr, hc⟩ := codeSpace_eq_rowStart.mp hsp
  have hz' : s.bitpos + zeros < 8 * s.inLen := by
    simp only [State.bitsToEnd, State.peekBits, List.length_map, List.length_range] at hz
    omega
  unfold State.afterLeadingEol
  obtain hc | hc := hc <;> rw [State.advance_command, hc]
  · exact .leol1D zeros hz' hp hr hc
  · exact .leol2D zeros hz' hp hr hc

theorem rowWithoutEol_running (hp : s.pos = .rowStart) (hr : s.row < s.rows) (h : rowWithoutEol s = .next t) :
    RunningStep s t := by
  unfold rowWithoutEol at h
  cases hc : s.command <;> rw [hc] at h <;> cases h
  case g31d => exact .noEol1D hp hr hc
  case g32d => exact .abort .missingEol (by decide)
  case g4 => exact .rowG4 hp hr hc
  case reserved => exact .abort .unsupportedMode (by decide)

theorem rowLoop_running (hp : s.pos = .rowStart) (h : rowLoop s = .next t) : RunningStep s t := by
  unfold rowLoop at h
  split at h
  · exact rowWithoutEol_running hp ‹_› h
  · cases h
    exact .finish hp (by omega)

theorem tag1_running (h : execTag1 s = .next t) : RunningStep s t := by
  unfold execTag1 at h
  split at h <;> cases h
  exact .tag1 (pos_of_tagSpace ‹_›)

theorem tag0_running (h : execTag0 s = .next t) : RunningStep s t := by
  unfold execTag0 at h
  split at h
  · split at h <;> cases h
    · exact .abort .missingReference (by decide)
    · exact .tag0 (pos_of_tagSpace ‹_›) ‹_›
  · cases h

/-- A running command reads no word only at the head of the row loop. -/
theorem pos_of_codeSpace_none (hb : s.status = .busy) (hc : s.cmdStart = false) (h : s.codeSpace = .none) :
    s.pos = .rowStart := by
  rw [codeSpace_of_running hb hc] at h
  unfold State.posSpace at h
  have hne (c : Colour) : runSpace c ≠ .none := by cases c <;> decide
  cases hp : s.pos <;> simp [hp, hne] at h ⊢

/-- Each operation of a running command takes one of the steps of `RunningStep`. -/
theorem StepOp.running (hop : StepOp s.fetchBits sp op) (hsp : s.codeSpace = sp) (hb : s.status = .busy)
    (hc : s.cmdStart = false) (h : op s = .next t) : RunningStep s t := by
  cases hop with
  | start k =>
    rw [codeSpace_eq_command, hc] at hsp
    cases hsp.2
  | runWord c n run k hn => exact runWord_running hn h
  | runMiss c => exact runStop_running (by decide) h
  | vertical n d hn => exact vertical_running hn h
  | pass =>
    obtain ⟨hp, h⟩ := modeWord_next h
    obtain rfl := pass_cases h
    exact .pass hp
  | horizontal =>
    obtain ⟨hp, h⟩ := modeWord_next h
    cases h
    exact .horizontal hp
  | extension => exact extension_running h
  | eolAtMode => exact eolAtMode_running h
  | modeMiss =>
    cases h
    exact .abort .modeLookupMiss (by decide)
  | leol zeros hz _ =>
    rw [State.fetchBits, hsp] at hz
    exact leol_running hz h
  | noLeadingEol =>
    obtain ⟨-, -, hp, hr, -⟩ := codeSpace_eq_rowStart.mp hsp
    exact rowWithoutEol_running hp hr h
  | tag1 => exact tag1_running h
  | tag0 => exact tag0_running h
  | noCodeSpace => exact rowLoop_running (pos_of_codeSpace_none hb hc hsp) h

theorem awake_iff : s.awake = true ↔ s.status = .busy := decide_eq_true_iff

/-! ### The start sequence -/

/-- The command word is what `CFG_MODE` holds (spec/10_state.md R22). -/
theorem decode_command (m : BitVec 2) : decode .command (codeBits 2 m.toNat) = .ok (commandInstr (commandOf m)) := by
  revert m
  decide

theorem step_of_command (h : s.codeSpace = .command) : step s = exec (commandInstr s.command) s := by
  have hf : s.fetch = .ok (commandInstr s.command) := by
    simp only [State.fetch, State.fetchBits, h, decode_command, State.command]
  rw [step_eq_answer (awake_iff.mpr (codeSpace_eq_command.mp h).1), hf, answer]

/-- Everything a step can do: nothing, where the block is not `BUSY`; the start sequence, right after the write of `CMD_START`; a step of
the running command. -/
theorem step_cases (h : step s = .next t) :
    (s.status ≠ .busy ∧ t = s) ∨
    (s.status = .busy ∧ s.cmdStart = true ∧ t = s.initDatapath.checkConfig) ∨
    (s.status = .busy ∧ s.cmdStart = false ∧ RunningStep s t) := by
  by_cases hb : s.status = .busy
  · cases hc : s.cmdStart with
    | true =>
      rw [step_of_command (codeSpace_eq_command.mpr ⟨hb, hc⟩), exec_commandInstr] at h
      obtain ⟨-, -, rfl⟩ := startCommand_cases h
      exact .inr (.inl ⟨hb, rfl, rfl⟩)
    | false =>
      have hw := awake_iff.mpr hb
      obtain ⟨op, hop, hstep⟩ := step_op s
      rw [hstep s hw rfl] at h
      exact .inr (.inr ⟨hb, rfl, hop.running rfl hb hc h⟩)
  · rw [step_idle (by simpa [State.awake] using hb)] at h
    exact .inl ⟨hb, (Host.Outcome.next.inj h).symm⟩

end Sys2Proof.Machine
end

section
/-! PROOFS. What every step keeps: the configuration and the input, the order of the cursor, the moves of `STATUS`, and the invariant of
the engine. -/

namespace Sys2Proof.Machine

variable {s t u : State}

/-! ### The configuration, the cursor and `STATUS` -/

/-- All that no step writes (spec/10_state.md R21, spec/20_memory.md R61). -/
def State.settings (s : State) : ConfigValues × Nat × Memory :=
  (hostReadConfig s, s.inLen, s.input)

/-- The command runs on from `s` to `t`: no setting changes and the cursor does not go back. -/
def State.RunsOn (s t : State) : Prop :=
  t.settings = s.settings ∧ t.status = .busy ∧ s.bitpos ≤ t.bitpos

/-- The end of a row in one equation: only the cursor may also move, forward (spec/10_state.md R36, spec/47_line_orchestrators.md R466). -/
theorem endRow_eq (s : State) :
    ∃ b, s.bitpos ≤ b ∧ s.endRow = { s with bitpos := b, ref := .row s.row, row := s.row + 1, pos := .rowStart } := by
  obtain ⟨-, -, h⟩ | ⟨-, h⟩ := endRow_cases s
  · exact ⟨8 * ((s.bitpos + 7) / 8), by omega, h⟩
  · exact ⟨s.bitpos, le_rfl, h⟩

theorem endRow_runsOn (h : s.RunsOn u) : s.RunsOn u.endRow := by
  obtain ⟨hs, hb, hle⟩ := h
  obtain ⟨b, hub, hu⟩ := endRow_eq u
  rw [hu]
  exact ⟨hs, hb, hle.trans hub⟩

theorem loop1D_runsOn (h : s.RunsOn u) : s.RunsOn u.loop1D := by
  obtain ⟨-, hu⟩ | ⟨-, hu⟩ := loop1D_cases u <;> rw [hu]
  · exact h
  · exact endRow_runsOn h

theorem loop2D_runsOn (h : s.RunsOn u) : s.RunsOn u.loop2D := by
  obtain ⟨-, hu⟩ | ⟨-, hu⟩ := loop2D_cases u <;> rw [hu]
  · exact h
  · exact endRow_runsOn h

theorem State.RunsOn.afterRun1D (h : s.RunsOn u) : s.RunsOn u.afterRun1D := ⟨h.1, h.2.1, h.2.2⟩
theorem State.RunsOn.afterRuns2D (h : s.RunsOn u) : s.RunsOn u.afterRuns2D := ⟨h.1, h.2.1, h.2.2⟩
theorem State.RunsOn.afterVertical (h : s.RunsOn u) (d : Int) : s.RunsOn (u.afterVertical d) := ⟨h.1, h.2.1, h.2.2⟩
theorem State.RunsOn.afterPass (h : s.RunsOn u) : s.RunsOn u.afterPass := ⟨h.1, h.2.1, h.2.2⟩

theorem runsOn_advance (hb : s.status = .busy) (n : Nat) : s.RunsOn (s.advance n) := ⟨rfl, hb, Nat.le_add_right _ _⟩
theorem runsOn_addRun (hb : s.status = .busy) (n run : Nat) : s.RunsOn (s.addRun n run) := runsOn_advance hb n
theorem runsOn_searched (hb : s.status = .busy) (n : Nat) : s.RunsOn (s.searched n) := runsOn_advance hb n

/-- A step of a running command ends it, the cursor where it was, faults, or lets it run on. -/
theorem RunningStep.outcome (h : RunningStep s t) (hb : s.status = .busy) :
    t.settings = s.settings ∧ (t.status = .fault ∨ (t.status = .done ∧ t.bitpos = s.bitpos) ∨ s.RunsOn t) := by
  have on {u : State} (h : s.RunsOn u) : u.settings = s.settings ∧
      (u.status = .fault ∨ (u.status = .done ∧ u.bitpos = s.bitpos) ∨ s.RunsOn u) := ⟨h.1, .inr (.inr h)⟩
  cases h with
  | abort code _ => exact ⟨rfl, .inl rfl⟩
  | finish _ _ => exact ⟨rfl, .inr (.inl ⟨rfl, rfl⟩)⟩
  | padRow _ => exact ⟨rfl, .inr (.inl ⟨rfl, rfl⟩)⟩
  | padImage _ _ => exact ⟨rfl, .inr (.inl ⟨rfl, rfl⟩)⟩
  | makeup n run _ _ => exact on (runsOn_addRun hb n run)
  | run1D n run _ _ _ => exact on (loop1D_runsOn (runsOn_addRun hb n run).afterRun1D)
  | firstRun n run _ _ => exact on (runsOn_addRun hb n run)
  | secondRun n run _ _ _ => exact on (loop2D_runsOn (runsOn_addRun hb n run).afterRuns2D)
  | vertical n d _ _ _ _ => exact on (loop2D_runsOn ((runsOn_searched hb n).afterVertical d))
  | pass _ => exact on (loop2D_runsOn (runsOn_searched hb 4).afterPass)
  | horizontal _ => exact on (runsOn_searched hb 3)
  | leol1D zeros _ _ _ _ => exact on (loop1D_runsOn (runsOn_advance hb (zeros + 1)))
  | leol2D zeros _ _ _ _ => exact on (runsOn_advance hb (zeros + 1))
  | noEol1D _ _ _ => exact on (loop1D_runsOn ⟨rfl, hb, le_rfl⟩)
  | rowG4 _ _ _ => exact on (loop2D_runsOn ⟨rfl, hb, le_rfl⟩)
  | tag1 _ => exact on (loop1D_runsOn (runsOn_advance hb 1))
  | tag0 _ _ => exact on (loop2D_runsOn (runsOn_advance hb 1))

/-- The start sequence begins the command or aborts it, with the checks' code. -/
theorem start_cases (s : State) :
    s.initDatapath.checkConfig = s.initDatapath ∧ s.configOk ∨
      ∃ code ≠ FaultCode.none, s.initDatapath.checkConfig = s.initDatapath.abort code := by
  obtain ⟨-, h⟩ | ⟨-, -, h⟩ | ⟨-, -, -, h⟩ | ⟨-, -, -, -, h⟩ | ⟨hm, hp, hb, hw, h⟩ := checkConfig_cases s.initDatapath
  · exact .inr ⟨_, by decide, h⟩
  · exact .inr ⟨_, by decide, h⟩
  · exact .inr ⟨_, by decide, h⟩
  · exact .inr ⟨_, by decide, h⟩
  · exact .inl ⟨h, hm, hp, hb, hw⟩

theorem step_settings (h : step s = .next t) : t.settings = s.settings := by
  obtain ⟨-, rfl⟩ | ⟨-, -, rfl⟩ | ⟨hb, -, h⟩ := step_cases h
  · rfl
  · obtain ⟨h, -⟩ | ⟨code, -, h⟩ := start_cases s <;> rw [h] <;> rfl
  · exact (h.outcome hb).1

/-- Settles O10: no step writes what `State.settings` holds. -/
theorem stepKeepsConfigAndInput : Obligations.StepKeepsConfigAndInput := by
  intro s t h
  have hs := step_settings h
  simp only [State.settings, hostReadConfig, Prod.mk.injEq, ConfigValues.mk.injEq] at hs
  obtain ⟨⟨hmode, hlsb, hphot, hbps, hwidth, hskip, hreq, hcap⟩, hlen, hin⟩ := hs
  exact ⟨hmode, hlsb, hphot, hbps, hwidth, hskip, hreq, hlen, hcap, hin⟩

/-- A step of a `BUSY` block leaves it `BUSY`, `DONE` or `FAULT`. -/
theorem step_status_ne_idle (hb : s.status = .busy) (h : step s = .next t) : t.status ≠ .idle := by
  obtain ⟨hn, -⟩ | ⟨-, -, rfl⟩ | ⟨-, -, h⟩ := step_cases h
  · exact absurd hb hn
  · obtain ⟨h, -⟩ | ⟨code, -, h⟩ := start_cases s <;> simp [h]
  · obtain ⟨-, h | ⟨h, -⟩ | ⟨-, h, -⟩⟩ := h.outcome hb <;> simp [h]

/-- Settles O12: a block that is not `BUSY` stays as it is, and one that is `BUSY` does not become `IDLE`. -/
theorem statusMoves : Obligations.StatusMoves := by
  intro s t h
  by_cases hb : s.status = .busy
  · exact ⟨fun hi => absurd hi (step_status_ne_idle hb h), fun _ => .inl hb, fun _ => hb, fun hn => absurd hb hn⟩
  · obtain ⟨-, rfl⟩ | ⟨hb', -⟩ | ⟨hb', -⟩ := step_cases h
    · exact ⟨id, .inr, id, fun _ => rfl⟩
    · exact absurd hb' hb
    · exact absurd hb' hb

/-- Settles O13, by the outcomes of a step of a running command. -/
theorem cursorNeverGoesBack : Obligations.CursorNeverGoesBack := by
  intro s t hb hc h hf
  obtain ⟨hn, -⟩ | ⟨-, hc', -⟩ | ⟨-, -, h⟩ := step_cases h
  · exact absurd hb hn
  · rw [hc] at hc'
    cases hc'
  · obtain ⟨-, h | ⟨-, h⟩ | ⟨-, -, h⟩⟩ := h.outcome hb
    · exact absurd h hf
    · exact h.ge
    · exact h

/-! ### The invariant of the engine -/

theorem posOk_run (hp : s.pos = .run) :
    s.posOk = true ↔ s.unpacked < s.cfgWidth ∧ (s.command = .g31d ∨ s.command = .g32d) := by
  simp [State.posOk, hp]

/-- The positions of a 2-D row. -/
theorem posOk_2D (hp : s.pos = .mode ∨ s.pos = .hRun1 ∨ s.pos = .hRun2) :
    s.posOk = true ↔ s.unpacked < s.cfgWidth ∧ s.ref ≠ .none ∧ s.a0Ok := by
  obtain hp | hp | hp := hp <;> simp [State.posOk, hp, and_assoc]

/-- A running command in a row of the image, wherever it is in it. -/
structure State.InRow (s : State) : Prop where
  input_wf : s.input.wf = true
  output_wf : s.output.wf = true
  busy : s.status = .busy
  noFault : s.faultCode = .none
  started : s.cmdStart = false
  config : s.configOk
  row_lt : s.row < s.rows
  ref_ok : s.refOk = true

theorem busyOk_of_inv (h : s.Inv) (hb : s.status = .busy) (hc : s.cmdStart = false) : s.busyOk := by
  obtain ⟨-, -, -, -, hbusy⟩ := h
  exact hbusy hb hc

theorem inRow_of_inv (h : s.Inv) (hb : s.status = .busy) (hc : s.cmdStart = false) (hr : s.row < s.rows) : s.InRow := by
  obtain ⟨hconfig, -, -, href, -⟩ := busyOk_of_inv h hb hc
  obtain ⟨hin, hout, hf, -⟩ := h
  exact ⟨hin, hout, hb, by simpa [hb] using hf, hc, hconfig, hr, href⟩

theorem State.InRow.inv (h : s.InRow) (hp : s.posOk = true) : s.Inv :=
  ⟨h.input_wf, h.output_wf, by simp [h.busy, h.noFault], fun _ => h.busy,
    fun _ _ => ⟨h.config, h.row_lt.le, fun _ => h.row_lt, h.ref_ok, hp⟩⟩

theorem State.InRow.addRun (h : s.InRow) (n run : Nat) : (s.addRun n run).InRow := { h with }
theorem State.InRow.searched (h : s.InRow) (n : Nat) : (s.searched n).InRow := { h with }
theorem State.InRow.afterRun1D (h : s.InRow) : s.afterRun1D.InRow := { h with output_wf := filled_wf h.output_wf }
theorem State.InRow.afterRuns2D (h : s.InRow) : s.afterRuns2D.InRow :=
  { h with output_wf := filled_wf (filled_wf h.output_wf) }
theorem State.InRow.afterVertical (h : s.InRow) (d : Int) : (s.afterVertical d).InRow :=
  { h with output_wf := filled_wf h.output_wf }
theorem State.InRow.afterPass (h : s.InRow) : s.afterPass.InRow := { h with output_wf := filled_wf h.output_wf }

theorem abort_inv {code : FaultCode} (hin : s.input.wf = true) (hout : s.output.wf = true) (hc : s.cmdStart = false)
    (hcode : code ≠ .none) : (s.abort code).Inv :=
  ⟨hin, abort_wf hout, by simp [hcode], by simp [hc], by simp⟩

theorem finish_inv (hin : s.input.wf = true) (hout : s.output.wf = true) (hc : s.cmdStart = false) : s.finish.Inv :=
  ⟨hin, hout, by simp, by simp [hc], by simp⟩

theorem endRow_inv (h : s.InRow) : s.endRow.Inv := by
  obtain ⟨b, -, he⟩ := endRow_eq s
  rw [he]
  exact ⟨h.input_wf, h.output_wf, by simp [h.busy, h.noFault], fun _ => h.busy,
    fun _ _ => ⟨h.config, h.row_lt, fun hp => absurd rfl hp, decide_eq_true rfl, rfl⟩⟩

theorem loop1D_inv (h : s.InRow) (hc : s.command = .g31d ∨ s.command = .g32d) : s.loop1D.Inv := by
  obtain ⟨hlt, hl⟩ | ⟨-, hl⟩ := loop1D_cases s <;> rw [hl]
  · exact State.InRow.inv { h with } ((posOk_run rfl).mpr ⟨hlt, hc⟩)
  · exact endRow_inv h

theorem loop2D_inv (h : s.InRow) (hr : s.ref ≠ .none) (ha : s.a0Ok) : s.loop2D.Inv := by
  obtain ⟨hlt, hl⟩ | ⟨-, hl⟩ := loop2D_cases s <;> rw [hl]
  · exact State.InRow.inv { h with } ((posOk_2D (.inl rfl)).mpr ⟨hlt, hr, ha⟩)
  · exact endRow_inv h

theorem afterRuns2D_inv (h : s.InRow) (hr : s.ref ≠ .none) : s.afterRuns2D.loop2D.Inv :=
  loop2D_inv h.afterRuns2D hr (.inl rfl)

theorem afterPass_inv (h : s.InRow) (hr : s.ref ≠ .none) : s.afterPass.loop2D.Inv :=
  loop2D_inv h.afterPass hr (.inl rfl)

theorem afterVertical_inv {d : Int} (h : s.InRow) (hr : s.ref ≠ .none) (hge : (s.unpacked : Int) ≤ s.b1 + d) :
    (s.afterVertical d).loop2D.Inv :=
  loop2D_inv (h.afterVertical d) hr (.inl (Int.toNat_of_nonneg ((Int.natCast_nonneg _).trans hge)).symm)

theorem beginLine1D_inv (h : s.InRow) (hc : s.command = .g31d ∨ s.command = .g32d) : s.beginLine1D.Inv :=
  loop1D_inv { h with } hc

theorem beginLine2D_inv (h : s.InRow) (hr : s.ref ≠ .none) : s.beginLine2D.Inv :=
  loop2D_inv { h with } hr (.inr ⟨rfl, rfl, rfl⟩)

/-- A Group 4 row has a reference: the imaginary row or the row before it (spec/10_state.md R36, R43). -/
theorem ref_ne_none_of_g4 (h : s.refOk = true) (hc : s.command = .g4) : s.ref ≠ .none := by
  intro hr
  simp [State.refOk, hr, hc] at h

/-- Every step of a running command keeps the invariant. -/
theorem RunningStep.inv (h : RunningStep s t) (hinv : s.Inv) (hb : s.status = .busy) (hc : s.cmdStart = false) : t.Inv := by
  obtain ⟨-, -, hrow, href, hpos⟩ := busyOk_of_inv hinv hb hc
  obtain ⟨hin, hout, -⟩ := id hinv
  have inRow (hp : s.pos ≠ .rowStart) : s.InRow := inRow_of_inv hinv hb hc (hrow hp)
  have inRow2D (hp : s.pos = .mode ∨ s.pos = .hRun1 ∨ s.pos = .hRun2) :
      s.InRow ∧ s.unpacked < s.cfgWidth ∧ s.ref ≠ .none ∧ s.a0Ok :=
    ⟨inRow (by obtain hp | hp | hp := hp <;> simp [hp]), (posOk_2D hp).mp hpos⟩
  cases h with
  | abort code hcode => exact abort_inv hin hout hc hcode
  | finish _ _ => exact finish_inv hin hout hc
  | padRow _ => exact finish_inv hin (filled_wf hout) hc
  | padImage _ _ => exact finish_inv hin (filled_wf (filled_wf hout)) hc
  | makeup n run _ hp =>
    have h := inRow (by obtain hp | hp | hp := hp <;> simp [hp])
    exact (h.addRun n run).inv hpos
  | run1D n run _ hp _ =>
    have h := inRow (by simp [hp])
    exact loop1D_inv (h.addRun n run).afterRun1D ((posOk_run hp).mp hpos).2
  | firstRun n run _ hp =>
    obtain ⟨h, h2D⟩ := inRow2D (.inr (.inl hp))
    exact State.InRow.inv { h with } ((posOk_2D (.inr (.inr rfl))).mpr h2D)
  | secondRun n run _ hp _ =>
    obtain ⟨h, -, hr, -⟩ := inRow2D (.inr (.inr hp))
    exact afterRuns2D_inv (h.addRun n run) hr
  | vertical n d _ hp _ hge =>
    obtain ⟨h, -, hr, -⟩ := inRow2D (.inl hp)
    exact afterVertical_inv (h.searched n) hr hge
  | pass hp =>
    obtain ⟨h, -, hr, -⟩ := inRow2D (.inl hp)
    exact afterPass_inv (h.searched 4) hr
  | horizontal hp =>
    obtain ⟨h, h2D⟩ := inRow2D (.inl hp)
    exact State.InRow.inv { h with } ((posOk_2D (.inr (.inl rfl))).mpr h2D)
  | leol1D zeros _ _ hr hc' =>
    exact beginLine1D_inv { inRow_of_inv hinv hb hc hr with } (.inl hc')
  | leol2D zeros _ _ hr hc' =>
    exact State.InRow.inv { inRow_of_inv hinv hb hc hr with } (decide_eq_true hc')
  | noEol1D _ hr hc' => exact beginLine1D_inv { inRow_of_inv hinv hb hc hr with } (.inl hc')
  | rowG4 _ hr hc' => exact beginLine2D_inv (inRow_of_inv hinv hb hc hr) (ref_ne_none_of_g4 href hc')
  | tag1 hp =>
    have h := inRow (by simp [hp])
    exact beginLine1D_inv { h with } (.inr (by simpa [State.posOk, hp] using hpos))
  | tag0 hp hr =>
    have h := inRow (by simp [hp])
    exact beginLine2D_inv { h with } hr

/-- `REF` at the start of a command is what the invariant asks for (spec/10_state.md R43). -/
theorem initDatapath_refOk (hm : s.cfgMode ≠ 3#2) : s.initDatapath.refOk = true := by
  have hc : s.command ≠ .reserved := by
    unfold State.command
    generalize s.cfgMode = m at hm ⊢
    revert m
    decide
  cases h : s.command <;> simp [State.refOk, startRef, h] at hc ⊢

theorem initDatapath_inv (hin : s.input.wf = true) (hout : s.output.wf = true) (h : s.configOk) : s.initDatapath.Inv :=
  ⟨hin, hout, by simp, by simp, fun _ _ => ⟨h, Nat.zero_le _, fun hp => absurd rfl hp, initDatapath_refOk h.1, rfl⟩⟩

/-- Settles O3, by the three kinds of steps. -/
theorem stepKeepsInvariant : Obligations.StepKeepsInvariant := by
  intro s t hinv h
  obtain ⟨hin, hout, -⟩ := id hinv
  obtain ⟨-, rfl⟩ | ⟨-, -, rfl⟩ | ⟨hb, hc, h⟩ := step_cases h
  · exact hinv
  · obtain ⟨h, hcfg⟩ | ⟨code, hcode, h⟩ := start_cases s <;> rw [h]
    · exact initDatapath_inv hin hout hcfg
    · exact abort_inv hin hout rfl hcode
  · exact h.inv hinv hb hc

end Sys2Proof.Machine
end

section
/-! PROOFS. Reset, the host's moves, the start of a command, the abort, and the word that ends a 1-D row. -/

namespace Sys2Proof.Machine

variable {s : State}

/-! ### Reset (spec/70_reset_and_hazards.md R531) -/

/-- Settles O1: a block that is not `BUSY` stays as it is. -/
theorem resetIsIdle : Obligations.ResetIsIdle :=
  ⟨rfl, rfl, rfl, step_idle rfl⟩

/-- Settles O2: no command runs and nothing is written. -/
theorem resetMeetsInvariants : Obligations.ResetMeetsInvariants :=
  ⟨by decide, by decide, fun a ha => absurd ha (Nat.not_lt_zero a)⟩

/-! ### The host's moves (spec/10_state.md R26, spec/20_memory.md R77, R80) -/

theorem hostStart_of_busy (h : s.status = .busy) : hostStart s = s := if_pos h

theorem hostStart_of_not_busy (h : s.status ≠ .busy) : hostStart s = s.startWritten := if_neg h

theorem hostStart_status (s : State) : (hostStart s).status = .busy := by
  by_cases h : s.status = .busy
  · rwa [hostStart_of_busy h]
  · rw [hostStart_of_not_busy h, State.startWritten_status]

/-- Settles O53: both branches of the write. -/
theorem startWriteSetsBusyOrIsIgnored : Obligations.StartWriteSetsBusyOrIsIgnored :=
  fun _ => ⟨hostStart_of_busy, hostStart_of_not_busy⟩

theorem hostStart_settings (s : State) : (hostStart s).settings = s.settings := by
  by_cases h : s.status = .busy
  · rw [hostStart_of_busy h]
  · rw [hostStart_of_not_busy h]
    rfl

/-- Settles O60: each move of the host asks whether the block is `BUSY`, and a write of `CMD_START` changes no setting. -/
theorem hostWaitsWhileBusy : Obligations.HostWaitsWhileBusy := by
  intro s t v bytes a b h
  have hb : t.status = .busy := by
    obtain rfl | ⟨rfl, hb⟩ := h
    · exact hostStart_status s
    · exact hb
  have hset : t.settings = s.settings := by
    obtain rfl | ⟨rfl, -⟩ := h
    · exact hostStart_settings s
    · rfl
  simp only [State.settings, Prod.mk.injEq] at hset
  exact ⟨hb, if_pos hb, if_pos hb, if_pos hb, if_pos hb, if_pos hb, if_pos hb, hostStart_of_busy hb, hset.1, hset.2.1⟩

/-! ### The start of a command (spec/10_state.md R22, R43, spec/47_line_orchestrators.md R460) -/

theorem command_of_mode {m : BitVec 2} (h : s.cfgMode = m) : s.command = commandOf m := congrArg commandOf h

theorem exec_command_of_space {k : Command} (hsp : s.codeSpace = .command) (hk : s.command = k) :
    exec (commandInstr k) s = .next s.initDatapath.checkConfig := by
  rw [exec_commandInstr, startCommand_of_space hsp hk]

/-- The next step after the write of `CMD_START` is the word of the selected command. -/
theorem step_hostStart {m : BitVec 2} (hb : s.status ≠ .busy) (hm : s.cfgMode = m) :
    step (hostStart s) = exec (commandInstr (commandOf m)) (hostStart s) := by
  rw [hostStart_of_not_busy hb, step_of_command (codeSpace_eq_command.mpr ⟨rfl, rfl⟩), State.startWritten_command,
    command_of_mode hm]

/-- Settles O21: the command word is the value of `CFG_MODE`. -/
theorem stepStartsSelectedCommand : Obligations.StepStartsSelectedCommand := by
  intro s hb
  refine ⟨hostStart_status s, ?_, step_hostStart hb, step_hostStart hb, step_hostStart hb, step_hostStart hb⟩
  rw [hostStart_of_not_busy hb]
  exact codeSpace_eq_command.mpr ⟨rfl, rfl⟩

theorem checkConfig_of_configOk (h : s.configOk) : s.checkConfig = s := by
  obtain ⟨hm, hp, hb, hw⟩ := h
  rw [State.checkConfig, if_neg hm, if_neg (by omega), if_neg (not_not.mpr hb), if_neg (by omega)]

theorem checkConfig_of_photometric (hm : s.cfgMode ≠ 3#2) (hp : 1 < s.cfgPhotometric) :
    s.checkConfig = s.abort .unsupportedPhotometric := by
  rw [State.checkConfig, if_neg hm, if_pos (by omega)]

/-- Settles O51: the checks leave the initial datapath as it is. -/
theorem commandBegins : Obligations.CommandBegins := by
  intro i m r s hmem hsp hm hp hb hw
  have begins {k : Command} (hk : s.command = k) (h3 : s.cfgMode ≠ 3#2) :
      exec (commandInstr k) s = .next { s.initDatapath with ref := startRef k } := by
    rw [exec_command_of_space hsp hk, checkConfig_of_configOk (s := s.initDatapath) ⟨h3, hp, hb, hw⟩, ← hk]
    rfl
  simp only [List.mem_cons, Prod.mk.injEq, List.not_mem_nil, or_false] at hmem
  obtain ⟨rfl, rfl, rfl⟩ | ⟨rfl, rfl, rfl⟩ | ⟨rfl, rfl, rfl⟩ := hmem
  · exact begins (k := .g31d) (command_of_mode hm) (by rw [hm]; decide)
  · exact begins (k := .g32d) (command_of_mode hm) (by rw [hm]; decide)
  · exact begins (k := .g4) (command_of_mode hm) (by rw [hm]; decide)

/-- Settles O26: both interpretations, and the check of R460 for any other value. -/
theorem colourBytes : Obligations.ColourBytes := by
  intro s
  refine ⟨fun h => ⟨if_pos h, if_pos h⟩, fun h => ?_, fun hp hm hsp => ?_⟩
  · have h0 : s.cfgPhotometric ≠ 0 := by omega
    exact ⟨if_neg h0, if_neg h0⟩
  · rw [startCommand_of_space hsp rfl, checkConfig_of_photometric (s := s.initDatapath) hm hp]

/-! ### The abort (spec/60_exceptions.md R492) -/

/-- Settles O54: the abort changes no setting, and no output byte above the image. -/
theorem abortKeepsWhatSurvives : Obligations.AbortKeepsWhatSurvives :=
  fun _ _ hwf => ⟨rfl, rfl, rfl, rfl, rfl, rfl, rfl, rfl, rfl, rfl, rfl, rfl, abort_wf hwf, fun _ => abort_read_above hwf⟩

/-! ### The word that ends a 1-D row (spec/45_one_dimensional.md R401) -/

theorem endRun1D_of_fits (hle : s.unpacked + s.runAcc ≤ s.cfgWidth) (hcap : (s.row + 1) * s.cfgWidth ≤ s.outCap) :
    endRun1D s = .next s.afterRun1D.loop1D := by
  have hfit : s.row * s.cfgWidth + (s.unpacked + s.runAcc) ≤ s.outCap := by
    rw [Nat.add_one_mul] at hcap
    omega
  rw [endRun1D, if_neg (by omega), fill_of_fits hfit, andThen_next]
  rfl

/-- A terminating word at a run position of a 1-D row ends its run. -/
theorem exec_terminating_of_run {c : Colour} {e : RunEntry} (he : e ∈ runTable c) (hk : e.kind = .terminating)
    (hb : s.status = .busy) (hc : s.cmdStart = false) (hp : s.pos = .run) (hcol : s.color = c) :
    exec e.instr s = endRun1D (s.addRun e.bitsRequired e.runLength) := by
  have hsp : s.codeSpace = runSpace c := codeSpace_eq_runSpace.mpr ⟨hb, hc, .inl ⟨hp, hcol⟩⟩
  rw [runTable_meaning c e he, runWord_of_space hsp, hk]
  simp only [endRun, State.addRun_pos, hp]

theorem loop1D_of_full (h : s.cfgWidth ≤ s.unpacked) : s.loop1D = s.endRow := if_neg (by omega)

/-- Where the row's end leaves the cursor: only a Group 3 1-D row without its leading EOL is aligned (R466). -/
theorem endRow_bitpos_g31d (h : s.command = .g31d) :
    s.endRow.bitpos = if s.eolSeen then s.bitpos else 8 * ((s.bitpos + 7) / 8) := by
  obtain ⟨-, he, hr⟩ | ⟨he, hr⟩ := endRow_cases s
  · rw [hr, he]
    rfl
  · rw [hr, he h]
    rfl

theorem endRow_bitpos_of_ne_g31d (h : s.command ≠ .g31d) : s.endRow.bitpos = s.bitpos := by
  obtain ⟨hc, -⟩ | ⟨-, hr⟩ := endRow_cases s
  · exact absurd hc h
  · rw [hr]
    rfl

/-- Settles O33: the completed run fills the row, and the loop condition ends it. -/
theorem terminatingWordEndsRow : Obligations.TerminatingWordEndsRow := by
  intro c e s he hk hb hc hp hcol hfull hcap
  let r := s.addRun e.bitsRequired e.runLength
  let u := r.afterRun1D
  have hexec : exec e.instr s = .next u.endRow := by
    rw [exec_terminating_of_run he hk hb hc hp hcol, endRun1D_of_fits (s := r) hfull.le hcap,
      loop1D_of_full (s := u) hfull.ge]
  obtain ⟨b, -, hend⟩ := endRow_eq u
  have hout : u.output =
      s.output.fill (s.row * s.cfgWidth + s.unpacked) (s.byteOf c) (s.runAcc + e.runLength) := by
    rw [← hcol, ← Nat.add_sub_cancel_left (n := s.unpacked) (m := s.runAcc + e.runLength)]
    rfl
  refine ⟨u.endRow, hexec, ?_, ?_, ?_, ?_, ?_, ?_, ?_, fun hm => ?_, fun hm => ?_⟩
  · rw [hend]; exact hb
  · rw [hend]
  · rw [hend]; rfl
  · rw [hend]; exact hfull
  · rw [hend]; exact congrArg Colour.opp hcol
  · rw [hend]; exact hout
  · rw [hend]; rfl
  · exact endRow_bitpos_g31d (s := u) (command_of_mode hm)
  · exact endRow_bitpos_of_ne_g31d (s := u) (by rw [command_of_mode (s := u) hm]; decide)

end Sys2Proof.Machine
end

section
/-! PROOFS. The earlier contents of the output have no effect (spec/10_state.md R42, spec/20_memory.md R74). `Follows k o p` says that `p`
answers what `o` answers, in another output space that agrees with that of `o` below the bound `k`. Each operation of a running command,
run with another output space, follows itself, the bound being the part that the command has written. -/

namespace Sys2Proof.Machine

variable {s : State} {m m' : Memory} {o p : Result} {f g : State → Result} {op : State → Result} {bits : List Bool}
  {sp : CodeSpace} {a k n row lo hi : Nat} {b : Nat} {c : Colour} {v : Byte} {code : FaultCode}

/-! ### Output spaces that agree below a bound -/

/-- A read inside the filled bytes gives their value, a read outside them what was there. -/
theorem Memory.read_fill (h : m.wf = true) :
    (m.fill a v n).read b = if a ≤ b ∧ b < a + n then v else m.read b := by
  induction n with
  | zero => rw [Memory.fill_zero, if_neg (by omega)]
  | succ n ih =>
    rw [Memory.fill, Memory.read_write (Memory.wf_fill h), ih]
    by_cases hb : b = a + n
    · rw [if_pos hb, if_pos (by omega)]
    · rw [if_neg hb]
      exact if_congr (by omega) rfl rfl

/-- Two canonical spaces that read alike below `k`. -/
def Memory.AgreeBelow (k : Nat) (m m' : Memory) : Prop :=
  m.wf = true ∧ m'.wf = true ∧ ∀ a, a < k → m.read a = m'.read a

theorem Memory.AgreeBelow.mono {k' : Nat} (h : m.AgreeBelow k m') (hle : k' ≤ k) : m.AgreeBelow k' m' :=
  ⟨h.1, h.2.1, fun a ha => h.2.2 a (by omega)⟩

/-- A fill from the bound on moves the bound to its end. -/
theorem Memory.AgreeBelow.fill (h : m.AgreeBelow a m') : (m.fill a v n).AgreeBelow (a + n) (m'.fill a v n) := by
  obtain ⟨hm, hm', hr⟩ := h
  refine ⟨Memory.wf_fill hm, Memory.wf_fill hm', fun b hb => ?_⟩
  rw [Memory.read_fill hm, Memory.read_fill hm']
  split
  · rfl
  · exact hr b (by omega)

/-! ### The same state with another output space -/

/-- `s` with the output space `m`. -/
def State.withOutput (s : State) (m : Memory) : State :=
  { s with output := m }

@[simp] theorem withOutput_command (s : State) (m : Memory) : (s.withOutput m).command = s.command := rfl
@[simp] theorem withOutput_eolSeen (s : State) (m : Memory) : (s.withOutput m).eolSeen = s.eolSeen := rfl
@[simp] theorem withOutput_ref (s : State) (m : Memory) : (s.withOutput m).ref = s.ref := rfl
@[simp] theorem withOutput_refProblem (s : State) (m : Memory) : (s.withOutput m).refProblem = s.refProblem := rfl
@[simp] theorem withOutput_pos (s : State) (m : Memory) : (s.withOutput m).pos = s.pos := rfl

theorem withOutput_fetch (s : State) (m : Memory) : (s.withOutput m).fetch = s.fetch := rfl

theorem endRow_withOutput (s : State) (m : Memory) : (s.withOutput m).endRow = s.endRow.withOutput m := by
  unfold State.endRow
  rw [withOutput_command, withOutput_eolSeen]
  cases s.command <;> cases s.eolSeen <;> rfl

theorem loop1D_of_room (h : s.unpacked < s.cfgWidth) : s.loop1D = s.enterRun .run := if_pos h

theorem loop2D_of_room (h : s.unpacked < s.cfgWidth) : s.loop2D = { s with pos := .mode } := if_pos h

theorem loop2D_of_full (h : s.cfgWidth ≤ s.unpacked) : s.loop2D = s.endRow := if_neg (by omega)

theorem loop1D_withOutput (s : State) (m : Memory) : (s.withOutput m).loop1D = s.loop1D.withOutput m := by
  obtain h | h := Nat.lt_or_ge s.unpacked s.cfgWidth
  · rw [loop1D_of_room h, loop1D_of_room (s := s.withOutput m) h]
    rfl
  · rw [loop1D_of_full h, loop1D_of_full (s := s.withOutput m) h, endRow_withOutput]

theorem loop2D_withOutput (s : State) (m : Memory) : (s.withOutput m).loop2D = s.loop2D.withOutput m := by
  obtain h | h := Nat.lt_or_ge s.unpacked s.cfgWidth
  · rw [loop2D_of_room h, loop2D_of_room (s := s.withOutput m) h]
    rfl
  · rw [loop2D_of_full h, loop2D_of_full (s := s.withOutput m) h, endRow_withOutput]

/-! ### The search in the reference row reads written bytes only -/

theorem refPixel_withOutput {r i : Nat} (h : s.output.AgreeBelow ((r + 1) * s.cfgWidth) m) (hi : i < s.cfgWidth) :
    (s.withOutput m).refPixel r i = s.refPixel r i :=
  (h.2.2 (r * s.cfgWidth + i) (by rw [Nat.add_one_mul]; omega)).symm

theorem changing_withOutput {r i : Nat} (h : s.output.AgreeBelow ((r + 1) * s.cfgWidth) m) (hi : i < s.cfgWidth) :
    (s.withOutput m).changing r i = s.changing r i := by
  unfold State.changing
  rw [refPixel_withOutput h hi, refPixel_withOutput h (by omega : 0 < s.cfgWidth),
    refPixel_withOutput h (by omega : i - 1 < s.cfgWidth)]
  rfl

theorem findB1_withOutput (h : s.output.AgreeBelow (s.row * s.cfgWidth) m) (href : s.refOk = true) (a0 : Int) (c : Colour) :
    (s.withOutput m).findB1 a0 c = s.findB1 a0 c := by
  unfold State.findB1
  rw [withOutput_ref]
  cases hr : s.ref with
  | none => rfl
  | imaginary => rfl
  | row r =>
    have hrow : r + 1 = s.row := by simpa [State.refOk, hr] using href
    refine congrArg (Option.getD · s.cfgWidth) (List.find?_congr fun i hi => ?_)
    have hi : i < s.cfgWidth := List.mem_range.mp hi
    rw [← hrow] at h
    rw [changing_withOutput h hi, refPixel_withOutput h hi]
    rfl

theorem findB2_withOutput (h : s.output.AgreeBelow (s.row * s.cfgWidth) m) (href : s.refOk = true) (b1 : Int) :
    (s.withOutput m).findB2 b1 = s.findB2 b1 := by
  unfold State.findB2
  rw [withOutput_ref]
  cases hr : s.ref with
  | none => rfl
  | imaginary => rfl
  | row r =>
    have hrow : r + 1 = s.row := by simpa [State.refOk, hr] using href
    refine congrArg (Option.getD · s.cfgWidth) (List.find?_congr fun i hi => ?_)
    have hi : i < s.cfgWidth := List.mem_range.mp hi
    rw [← hrow] at h
    rw [changing_withOutput h hi]

/-! ### How much a command has written -/

/-- A command runs and its start sequence is done. -/
structure State.Running (s : State) : Prop where
  busy : s.status = .busy
  started : s.cmdStart = false

theorem written_rowHead (h : s.Running) (hp : s.pos = .rowStart ∨ s.pos = .tag) : s.written = s.row * s.cfgWidth := by
  simp only [State.written, h.busy, h.started, Bool.false_eq_true, if_false, if_pos hp, Nat.add_zero]

theorem written_inRow (h : s.Running) (hp : ¬ (s.pos = .rowStart ∨ s.pos = .tag)) :
    s.written = s.row * s.cfgWidth + s.unpacked := by
  simp only [State.written, h.busy, h.started, Bool.false_eq_true, if_false, if_neg hp]

theorem endRow_written (h : s.Running) : s.endRow.written = (s.row + 1) * s.cfgWidth := by
  obtain ⟨b, -, he⟩ := endRow_eq s
  rw [he]
  exact written_rowHead ⟨h.busy, h.started⟩ (.inl rfl)

theorem endRow_output (s : State) : s.endRow.output = s.output := by
  obtain ⟨b, -, he⟩ := endRow_eq s
  rw [he]

theorem endRow_agree (h : s.Running) (hw : s.cfgWidth ≤ s.unpacked)
    (ha : s.output.AgreeBelow (s.row * s.cfgWidth + s.unpacked) m) : s.endRow.output.AgreeBelow s.endRow.written m := by
  rw [endRow_output, endRow_written h, Nat.add_one_mul]
  exact ha.mono (by omega)

theorem loop1D_agree (h : s.Running) (ha : s.output.AgreeBelow (s.row * s.cfgWidth + s.unpacked) m) :
    s.loop1D.output.AgreeBelow s.loop1D.written m := by
  obtain ⟨-, hl⟩ | ⟨hw, hl⟩ := loop1D_cases s <;> rw [hl]
  · rw [written_inRow (s := s.enterRun .run) ⟨h.busy, h.started⟩ (by simp)]
    exact ha
  · exact endRow_agree h hw ha

theorem loop2D_agree (h : s.Running) (ha : s.output.AgreeBelow (s.row * s.cfgWidth + s.unpacked) m) :
    s.loop2D.output.AgreeBelow s.loop2D.written m := by
  obtain ⟨-, hl⟩ | ⟨hw, hl⟩ := loop2D_cases s <;> rw [hl]
  · rw [written_inRow (s := { s with pos := .mode }) ⟨h.busy, h.started⟩ (by simp)]
    exact ha
  · exact endRow_agree h hw ha

/-! ### Results that follow each other -/

/-- `p` answers what `o` answers, in an output space that agrees below `k` with the one that `o` leaves. -/
def Follows (k : State → Nat) (o p : Result) : Prop :=
  ∀ s, o = .next s → ∃ m, p = .next (s.withOutput m) ∧ s.output.AgreeBelow (k s) m

theorem follows_next {k : State → Nat} (h : s.output.AgreeBelow (k s) m) : Follows k (.next s) (.next (s.withOutput m)) := by
  intro t ht
  cases ht
  exact ⟨m, rfl, h⟩

theorem follows_refused {k : State → Nat} {r : Refusal} : Follows k (.refused r) p := by
  intro t ht
  cases ht

theorem follows_fault {k : State → Nat} {r : Fault} : Follows k (.fault r) p := by
  intro t ht
  cases ht

theorem follows_ite {k : State → Nat} {P : Prop} [Decidable P] {o' p' : Result} (h : P → Follows k o p)
    (h' : ¬ P → Follows k o' p') : Follows k (if P then o else o') (if P then p else p') := by
  split
  · exact h ‹_›
  · exact h' ‹_›

theorem follows_andThen {k k' : State → Nat} (h : Follows k o p)
    (hf : ∀ u m, o = .next u → u.output.AgreeBelow (k u) m → Follows k' (f u) (g (u.withOutput m))) :
    Follows k' (andThen o f) (andThen p g) := by
  intro t ht
  obtain ⟨u, hu, ht⟩ := andThen_eq_next.mp ht
  obtain ⟨m, hm, ha⟩ := h u hu
  rw [hm]
  exact hf u m hu ha t ht

/-- A fill from the bound on moves the bound to its end. -/
theorem fill_follows (h : s.output.AgreeBelow (row * s.cfgWidth + lo) m) :
    Follows (fun _ => row * s.cfgWidth + hi) (fill row lo hi c s) (fill row lo hi c (s.withOutput m)) := by
  refine follows_ite (fun hle => follows_next (h.mono (by omega))) fun hlt => follows_ite (fun _ => ?_) fun _ => follows_fault
  exact follows_next (s := { s with output := s.output.fill (row * s.cfgWidth + lo) (s.byteOf c) (hi - lo) })
    (h.fill.mono (by omega))

/-- After an abort the command has written nothing that is known. -/
theorem abort_follows (h : s.output.AgreeBelow k m) :
    Follows State.written (.next (s.abort code)) (.next ((s.withOutput m).abort code)) :=
  follows_next (s := s.abort code) ⟨abort_wf h.1, Memory.wf_unspecified h.2.1, fun a ha => absurd ha (Nat.not_lt_zero a)⟩

theorem loop1D_follows (h : s.Running) (ha : s.output.AgreeBelow (s.row * s.cfgWidth + s.unpacked) m) :
    Follows State.written (.next s.loop1D) (.next (s.withOutput m).loop1D) := by
  rw [loop1D_withOutput]
  exact follows_next (loop1D_agree h ha)

theorem loop2D_follows (h : s.Running) (ha : s.output.AgreeBelow (s.row * s.cfgWidth + s.unpacked) m) :
    Follows State.written (.next s.loop2D) (.next (s.withOutput m).loop2D) := by
  rw [loop2D_withOutput]
  exact follows_next (loop2D_agree h ha)

end Sys2Proof.Machine
end

section
/-! PROOFS. Every operation of a running command follows itself in another output space; so does a step, which settles O8. -/

namespace Sys2Proof.Machine

variable {s : State} {m : Memory} {op : State → Result} {bits : List Bool} {sp : CodeSpace} {code : FaultCode}

/-! ### Runs -/

theorem padFinalRow1D_follows (hr : s.row + 1 = s.rows) (ha : s.output.AgreeBelow (s.row * s.cfgWidth + s.unpacked) m) :
    Follows State.written (padFinalRow1D s) (padFinalRow1D (s.withOutput m)) := by
  refine follows_andThen (fill_follows ha) fun u m' hu ha' => ?_
  obtain rfl := fill_eq_next hu
  refine follows_next (s := (s.filled _ _ _ _).finish) (ha'.mono ?_)
  change s.rows * s.cfgWidth ≤ s.row * s.cfgWidth + s.cfgWidth
  rw [← hr, Nat.add_one_mul]

theorem runStop_follows (hs : s.Running) (ha : s.output.AgreeBelow s.written m) :
    Follows State.written (runStop code s) (runStop code (s.withOutput m)) := by
  refine follows_ite (fun ht => ?_) fun _ => abort_follows ha
  obtain ⟨-, hp, hr⟩ := toleratesRunStop_iff.mp ht
  rw [written_inRow hs (by simp [hp])] at ha
  exact padFinalRow1D_follows hr ha

theorem endRun1D_follows (hs : s.Running) (ha : s.output.AgreeBelow (s.row * s.cfgWidth + s.unpacked) m) :
    Follows State.written (endRun1D s) (endRun1D (s.withOutput m)) := by
  refine follows_ite (fun _ => abort_follows ha) fun _ => follows_andThen (fill_follows ha) fun u m' hu ha' => ?_
  obtain rfl := fill_eq_next hu
  exact loop1D_follows (s := s.afterRun1D) ⟨hs.busy, hs.started⟩ ha'

theorem endHRun2_follows (hs : s.Running) (ha : s.output.AgreeBelow (s.row * s.cfgWidth + s.unpacked) m) :
    Follows State.written (endHRun2 s) (endHRun2 (s.withOutput m)) := by
  refine follows_ite (fun _ => abort_follows ha) fun _ => follows_andThen (fill_follows ha) fun u m' hu ha' => ?_
  obtain rfl := fill_eq_next hu
  refine follows_andThen (fill_follows ha') fun v m'' hv ha'' => ?_
  obtain rfl := fill_eq_next hv
  exact loop2D_follows (s := s.afterRuns2D) ⟨hs.busy, hs.started⟩ ha''

theorem endRun_follows (hs : s.Running) (hp : s.pos = .run ∨ s.pos = .hRun1 ∨ s.pos = .hRun2)
    (ha : s.output.AgreeBelow s.written m) : Follows State.written (endRun s) (endRun (s.withOutput m)) := by
  rw [written_inRow hs (by obtain hp | hp | hp := hp <;> simp [hp])] at ha
  unfold endRun
  rw [withOutput_pos]
  obtain hp | hp | hp := hp <;> rw [hp]
  · exact endRun1D_follows hs ha
  · refine follows_next (s := s.endHRun1) ?_
    rw [written_inRow (s := s.endHRun1) ⟨hs.busy, hs.started⟩ (by simp [State.endHRun1])]
    exact ha
  · exact endHRun2_follows hs ha

theorem runWord_follows (hs : s.Running) (ha : s.output.AgreeBelow s.written m) (c : Colour) (n run : Nat) (k : RunKind) :
    Follows State.written (runWord c n run k s) (runWord c n run k (s.withOutput m)) := by
  refine follows_ite (fun hsp => ?_) fun _ => follows_refused
  cases k with
  | makeup => exact follows_next (s := s.addRun n run) ha
  | terminating =>
    exact endRun_follows (s := s.addRun n run) ⟨hs.busy, hs.started⟩ (pos_of_runSpace hsp) ha
  | endOfLine => exact runStop_follows hs ha

/-! ### Modes -/

theorem modeWord_follows (hs : s.Running) (hinv : s.Inv) (ha : s.output.AgreeBelow s.written m) (n : Nat)
    (hop : ∀ u : State, u.Running → u.refOk = true → u.output.AgreeBelow (u.row * u.cfgWidth + u.unpacked) m →
      Follows State.written (op u) (op (u.withOutput m))) :
    Follows State.written (modeWord n op s) (modeWord n op (s.withOutput m)) := by
  refine follows_ite (fun hsp => ?_) fun _ => follows_refused
  obtain ⟨-, -, -, href, -⟩ := busyOk_of_inv hinv hs.busy hs.started
  rw [written_inRow hs (by simp [pos_of_modeSpace hsp])] at ha
  have hsearch : { (s.withOutput m).advance n with
      b1 := (((s.withOutput m).findB1 (s.withOutput m).a0 (s.withOutput m).color : Nat) : Int) } =
      (s.searched n).withOutput m := by
    rw [findB1_withOutput (ha.mono (Nat.le_add_right _ _)) href]
    rfl
  rw [hsearch, withOutput_refProblem]
  cases s.refProblem with
  | none => exact hop (s.searched n) ⟨hs.busy, hs.started⟩ href ha
  | some f => exact follows_fault

theorem vertical_follows (hs : s.Running) (ha : s.output.AgreeBelow (s.row * s.cfgWidth + s.unpacked) m) (d : Int) :
    Follows State.written (vertical d s) (vertical d (s.withOutput m)) := by
  refine follows_ite (fun _ => abort_follows ha) fun _ => follows_ite (fun _ => abort_follows ha) fun _ => ?_
  refine follows_andThen (fill_follows (s := { s with a1 := s.b1 + d }) ha) fun u m' hu ha' => ?_
  obtain rfl := fill_eq_next hu
  exact loop2D_follows (s := s.afterVertical d) ⟨hs.busy, hs.started⟩ ha'

theorem pass_follows (hs : s.Running) (href : s.refOk = true)
    (ha : s.output.AgreeBelow (s.row * s.cfgWidth + s.unpacked) m) :
    Follows State.written (pass s) (pass (s.withOutput m)) := by
  unfold pass
  rw [findB2_withOutput (ha.mono (Nat.le_add_right _ _)) href]
  refine follows_andThen (fill_follows (s := { s with b2 := ((s.findB2 s.b1 : Nat) : Int) }) ha) fun u m' hu ha' => ?_
  obtain rfl := fill_eq_next hu
  exact loop2D_follows (s := s.afterPass) ⟨hs.busy, hs.started⟩ ha'

theorem padEofb_follows (ha : s.output.AgreeBelow (s.row * s.cfgWidth + s.unpacked) m) :
    Follows State.written (padEofb s) (padEofb (s.withOutput m)) := by
  refine follows_andThen (fill_follows ha) fun u m' hu ha' => ?_
  obtain rfl := fill_eq_next hu
  refine follows_andThen (fill_follows (ha'.mono ?_)) fun v m'' hv ha'' => ?_
  · change 0 * s.cfgWidth + (s.row + 1) * s.cfgWidth ≤ s.row * s.cfgWidth + s.cfgWidth
    rw [Nat.zero_mul, Nat.zero_add, Nat.add_one_mul]
  · obtain rfl := fill_eq_next hv
    refine follows_next (s := State.finish _) (ha''.mono ?_)
    change s.rows * s.cfgWidth ≤ 0 * s.cfgWidth + s.rows * s.cfgWidth
    omega

theorem execEolAtMode_follows (hs : s.Running) (ha : s.output.AgreeBelow s.written m) :
    Follows State.written (execEolAtMode s) (execEolAtMode (s.withOutput m)) := by
  refine follows_ite (fun hsp => ?_) fun _ => follows_refused
  rw [withOutput_command]
  cases s.command with
  | g4 =>
    rw [written_inRow hs (by simp [pos_of_modeSpace hsp])] at ha
    exact padEofb_follows ha
  | g31d => exact abort_follows ha
  | g32d => exact abort_follows ha
  | reserved => exact abort_follows ha

/-! ### Rows -/

theorem beginLine1D_follows (hs : s.Running) (ha : s.output.AgreeBelow (s.row * s.cfgWidth) m) :
    Follows State.written (.next s.beginLine1D) (.next (s.withOutput m).beginLine1D) :=
  loop1D_follows (s := { s with unpacked := 0, color := .white }) ⟨hs.busy, hs.started⟩ ha

theorem beginLine2D_follows (hs : s.Running) (ha : s.output.AgreeBelow (s.row * s.cfgWidth) m) :
    Follows State.written (.next s.beginLine2D) (.next (s.withOutput m).beginLine2D) :=
  loop2D_follows (s := { s with a0 := -1, unpacked := 0, color := .white }) ⟨hs.busy, hs.started⟩ ha

theorem execLeol_follows (hs : s.Running) (ha : s.output.AgreeBelow (s.row * s.cfgWidth) m) (zeros : Nat) :
    Follows State.written (execLeol zeros s) (execLeol zeros (s.withOutput m)) := by
  refine follows_ite (fun _ => ?_) fun _ => follows_refused
  have tag : Follows State.written (.next { s.advance (zeros + 1) with pos := .tag })
      (.next { (s.withOutput m).advance (zeros + 1) with pos := .tag }) := by
    refine follows_next (s := { s.advance (zeros + 1) with pos := .tag }) ?_
    rw [written_rowHead (s := { s.advance (zeros + 1) with pos := .tag }) ⟨hs.busy, hs.started⟩ (.inr rfl)]
    exact ha
  unfold State.afterLeadingEol
  rw [show ((s.withOutput m).advance (zeros + 1)).command = s.command from rfl, State.advance_command]
  cases s.command with
  | g31d =>
    exact beginLine1D_follows (s := { s.advance (zeros + 1) with eolSeen := true }) ⟨hs.busy, hs.started⟩ ha
  | g32d => exact tag
  | g4 => exact tag
  | reserved => exact tag

theorem rowWithoutEol_follows (hs : s.Running) (ha : s.output.AgreeBelow (s.row * s.cfgWidth) m) :
    Follows State.written (rowWithoutEol s) (rowWithoutEol (s.withOutput m)) := by
  unfold rowWithoutEol
  rw [withOutput_command]
  cases s.command with
  | g31d => exact beginLine1D_follows (s := { s with eolSeen := false }) ⟨hs.busy, hs.started⟩ ha
  | g32d => exact abort_follows ha
  | g4 => exact beginLine2D_follows hs ha
  | reserved => exact abort_follows ha

theorem rowLoop_follows (hs : s.Running) (ha : s.output.AgreeBelow (s.row * s.cfgWidth) m) :
    Follows State.written (rowLoop s) (rowLoop (s.withOutput m)) := by
  refine follows_ite (fun _ => rowWithoutEol_follows hs ha) fun hr => ?_
  exact follows_next (s := s.finish) (ha.mono (Nat.mul_le_mul_right _ (Nat.le_of_not_lt hr)))

theorem execTag1_follows (hs : s.Running) (ha : s.output.AgreeBelow (s.row * s.cfgWidth) m) :
    Follows State.written (execTag1 s) (execTag1 (s.withOutput m)) :=
  follows_ite (fun _ => beginLine1D_follows (s := s.advance 1) ⟨hs.busy, hs.started⟩ ha) fun _ => follows_refused

theorem execTag0_follows (hs : s.Running) (ha : s.output.AgreeBelow (s.row * s.cfgWidth) m) :
    Follows State.written (execTag0 s) (execTag0 (s.withOutput m)) :=
  follows_ite
    (fun _ => follows_ite (fun _ => abort_follows ha) fun _ =>
      beginLine2D_follows (s := s.advance 1) ⟨hs.busy, hs.started⟩ ha)
    fun _ => follows_refused

/-! ### Steps -/

theorem checkConfig_follows (ha : s.output.AgreeBelow s.written m) :
    Follows State.written (.next s.checkConfig) (.next (s.withOutput m).checkConfig) := by
  unfold State.checkConfig
  simp only [apply_ite Host.Outcome.next]
  exact follows_ite (fun _ => abort_follows ha) fun _ => follows_ite (fun _ => abort_follows ha) fun _ =>
    follows_ite (fun _ => abort_follows ha) fun _ => follows_ite (fun _ => abort_follows ha) fun _ => follows_next ha

theorem startCommand_follows (ha : s.output.AgreeBelow 0 m) (k : Command) :
    Follows State.written (startCommand k s) (startCommand k (s.withOutput m)) := by
  refine follows_ite (fun _ => follows_ite (fun _ => ?_) fun _ => follows_refused) fun _ => follows_refused
  refine checkConfig_follows (s := s.initDatapath) ?_
  rw [written_rowHead (s := s.initDatapath) ⟨rfl, rfl⟩ (.inl rfl), State.initDatapath_row, Nat.zero_mul]
  exact ha

theorem running_of_codeSpace (hb : s.status = .busy) (hsp : s.codeSpace ≠ .command) : s.Running :=
  ⟨hb, by simpa [codeSpace_eq_command, hb] using hsp⟩

/-- Where the engine reads no word inside a row, it has written the rows before. -/
theorem written_of_rowSpace (hs : s.Running) (h : s.codeSpace = .rowStart ∨ s.codeSpace = .tag ∨ s.codeSpace = .none) :
    s.written = s.row * s.cfgWidth := by
  obtain h | h | h := h
  · obtain ⟨-, -, hp, -⟩ := codeSpace_eq_rowStart.mp h
    exact written_rowHead hs (.inl hp)
  · exact written_rowHead hs (.inr (pos_of_tagSpace h))
  · exact written_rowHead hs (.inl (pos_of_codeSpace_none hs.busy hs.started h))

/-- Each operation of a step follows itself in an output space that agrees on what the command has written. -/
theorem StepOp.follows (hop : StepOp bits sp op) (hsp : s.codeSpace = sp) (hb : s.status = .busy) (hinv : s.Inv)
    (ha : s.output.AgreeBelow s.written m) : Follows State.written (op s) (op (s.withOutput m)) := by
  have running (h : sp ≠ .command) : s.Running := running_of_codeSpace hb (hsp ▸ h)
  have rows (h : sp = .rowStart ∨ sp = .tag ∨ sp = .none) : s.Running ∧ s.output.AgreeBelow (s.row * s.cfgWidth) m := by
    have hs := running (by obtain h | h | h := h <;> simp [h])
    rw [← written_of_rowSpace hs (hsp ▸ h)]
    exact ⟨hs, ha⟩
  have runs (c : Colour) : runSpace c ≠ .command := by cases c <;> decide
  cases hop with
  | start k => exact startCommand_follows (ha.mono (Nat.zero_le _)) k
  | runWord c n run k _ => exact runWord_follows (running (runs c)) ha c n run k
  | runMiss c => exact runStop_follows (running (runs c)) ha
  | vertical n d _ =>
    exact modeWord_follows (running (by decide)) hinv ha n fun u hu _ h => vertical_follows hu h d
  | pass => exact modeWord_follows (running (by decide)) hinv ha 4 fun u hu hr h => pass_follows hu hr h
  | horizontal =>
    refine modeWord_follows (running (by decide)) hinv ha 3 fun u hu _ h => ?_
    refine follows_next (s := u.enterRun .hRun1) ?_
    rw [written_inRow (s := u.enterRun .hRun1) ⟨hu.busy, hu.started⟩ (by simp)]
    exact h
  | extension => exact follows_ite (fun _ => abort_follows ha) fun _ => follows_refused
  | eolAtMode => exact execEolAtMode_follows (running (by decide)) ha
  | modeMiss => exact abort_follows ha
  | leol zeros _ _ =>
    obtain ⟨hs, ha⟩ := rows (.inl rfl)
    exact execLeol_follows hs ha zeros
  | noLeadingEol =>
    obtain ⟨hs, ha⟩ := rows (.inl rfl)
    exact rowWithoutEol_follows hs ha
  | tag1 =>
    obtain ⟨hs, ha⟩ := rows (.inr (.inl rfl))
    exact execTag1_follows hs ha
  | tag0 =>
    obtain ⟨hs, ha⟩ := rows (.inr (.inl rfl))
    exact execTag0_follows hs ha
  | noCodeSpace =>
    obtain ⟨hs, ha⟩ := rows (.inr (.inr rfl))
    exact rowLoop_follows hs ha

/-- A step follows itself in an output space that agrees on what the command has written. -/
theorem step_follows (hinv : s.Inv) (ha : s.output.AgreeBelow s.written m) :
    Follows State.written (step s) (step (s.withOutput m)) := by
  by_cases hb : s.status = .busy
  · obtain ⟨op, hop, hstep⟩ := step_op s
    rw [hstep s (awake_iff.mpr hb) rfl, hstep (s.withOutput m) (awake_iff.mpr hb) (withOutput_fetch s m)]
    exact hop.follows rfl hb hinv ha
  · have hidle : s.awake = false := decide_eq_false hb
    rw [step_idle hidle, step_idle (s := s.withOutput m) hidle]
    exact follows_next ha

theorem agrees_iff {t : State} :
    s.agrees t ↔ t = s.withOutput t.output ∧ ∀ a, a < s.written → s.output.read a = t.output.read a := by
  refine and_congr_left' ⟨fun h => ?_, fun h => ?_⟩
  · rw [h]
    rfl
  · rw [h]
    rfl

/-- Settles O8: the second run is the first with another output space. -/
theorem stepIgnoresOldOutput : Obligations.StepIgnoresOldOutput := by
  intro s t s' hinv hwf hag h
  obtain ⟨ht, hr⟩ := agrees_iff.mp hag
  obtain ⟨-, hout, -⟩ := id hinv
  obtain ⟨m', hm', -, -, hr'⟩ := step_follows (m := t.output) hinv ⟨hout, hwf, hr⟩ s' h
  rw [← ht] at hm'
  exact ⟨s'.withOutput m', hm', agrees_iff.mpr ⟨rfl, hr'⟩⟩

end Sys2Proof.Machine
end

section
/-! PROOFS. A step from the invariant answers a next state, which settles O4. In a row of the image every byte that an operation
stores to exists, and at a mode position there is a reference row to search. -/

namespace Sys2Proof.Machine

variable {s : State} {op f : State → Result} {o o' : Result} {bits : List Bool} {sp : CodeSpace} {row lo hi n : Nat}
  {c : Colour} {code : FaultCode}

/-! ### Operations that answer a next state -/

/-- The operation goes on: no fault and no refusal of the model. -/
def Answers (o : Result) : Prop :=
  ∃ t, o = .next t

theorem answers_next : Answers (.next s) := ⟨s, rfl⟩

theorem answers_ite {P : Prop} [Decidable P] (h : P → Answers o) (h' : ¬ P → Answers o') :
    Answers (if P then o else o') := by
  split
  · exact h ‹_›
  · exact h' ‹_›

/-- A fill whose bytes exist goes on with the filled state. -/
theorem answers_fill (h : row * s.cfgWidth + hi ≤ s.outCap) (hf : Answers (f (s.filled row lo hi c))) :
    Answers (andThen (fill row lo hi c s) f) := by
  rwa [fill_of_fits h, andThen_next]

/-! ### The bytes of a row, and its reference row -/

theorem inRow_of_pos (hinv : s.Inv) (hb : s.status = .busy) (hc : s.cmdStart = false) (hp : s.pos ≠ .rowStart) : s.InRow := by
  obtain ⟨-, -, hrow, -, -⟩ := busyOk_of_inv hinv hb hc
  exact inRow_of_inv hinv hb hc (hrow hp)

/-- The whole image exists (spec/47_line_orchestrators.md R460). -/
theorem State.InRow.image_le_outCap (h : s.InRow) : s.rows * s.cfgWidth ≤ s.outCap := by
  obtain ⟨-, -, -, hcap⟩ := h.config
  rwa [Nat.mul_comm]

/-- A row lies within the image (spec/20_memory.md R72). -/
theorem State.InRow.le_image (h : s.InRow) (hhi : hi ≤ s.cfgWidth) : s.row * s.cfgWidth + hi ≤ s.rows * s.cfgWidth :=
  calc s.row * s.cfgWidth + hi ≤ (s.row + 1) * s.cfgWidth := by rw [Nat.add_one_mul]; omega
    _ ≤ s.rows * s.cfgWidth := Nat.mul_le_mul_right _ h.row_lt

theorem State.InRow.fits (h : s.InRow) (hhi : hi ≤ s.cfgWidth) : s.row * s.cfgWidth + hi ≤ s.outCap :=
  (h.le_image hhi).trans h.image_le_outCap

/-- A reference row that is a row of the output is the one before the current one (spec/10_state.md R36), so it exists. -/
theorem State.InRow.refProblem_eq_none (h : s.InRow) (hr : s.ref ≠ .none) : s.refProblem = none := by
  unfold State.refProblem
  have href := h.ref_ok
  cases hs : s.ref with
  | none => exact absurd hs hr
  | imaginary => rfl
  | row r =>
    have hrow : r + 1 = s.row := by simpa [State.refOk, hs] using href
    have hfit := h.fits (Nat.zero_le s.cfgWidth)
    rw [Nat.add_zero, ← hrow] at hfit
    exact if_pos hfit

theorem find?_range_getD_le (n : Nat) (p : Nat → Bool) : ((List.range n).find? p).getD n ≤ n := by
  cases h : (List.range n).find? p with
  | none => exact le_rfl
  | some i => exact (List.mem_range.mp (List.mem_of_find?_eq_some h)).le

/-- The search for `b2` ends within the row (spec/44_reference_scanline.md R383, R385). -/
theorem findB2_le_width (s : State) (b1 : Int) : s.findB2 b1 ≤ s.cfgWidth := by
  unfold State.findB2
  cases s.ref with
  | none => exact le_rfl
  | imaginary => exact le_rfl
  | row r => exact find?_range_getD_le _ _

/-! ### Runs -/

theorem runStop_answers (h : s.InRow) : Answers (runStop code s) :=
  answers_ite (fun _ => answers_fill (h.fits le_rfl) answers_next) fun _ => answers_next

theorem endRun1D_answers (h : s.InRow) : Answers (endRun1D s) :=
  answers_ite (fun _ => answers_next) fun hle => answers_fill (h.fits (by omega)) answers_next

theorem endHRun2_answers (h : s.InRow) : Answers (endHRun2 s) :=
  answers_ite (fun _ => answers_next) fun hle =>
    answers_fill (h.fits (by omega)) <|
      answers_fill (h.fits (hi := s.unpacked + s.hRun1 + s.runAcc) (by omega)) answers_next

theorem endRun_answers (h : s.InRow) : Answers (endRun s) := by
  unfold endRun
  cases s.pos with
  | hRun1 => exact answers_next
  | hRun2 => exact endHRun2_answers h
  | run => exact endRun1D_answers h
  | rowStart => exact endRun1D_answers h
  | tag => exact endRun1D_answers h
  | mode => exact endRun1D_answers h

theorem runWord_answers (h : s.InRow) (hsp : s.codeSpace = runSpace c) (n run : Nat) (k : RunKind) :
    Answers (runWord c n run k s) := by
  rw [runWord_of_space hsp]
  cases k with
  | makeup => exact answers_next
  | terminating => exact endRun_answers (h.addRun n run)
  | endOfLine => exact runStop_answers h

/-! ### Modes -/

theorem modeWord_answers (h : s.InRow) (hr : s.ref ≠ .none) (hsp : s.codeSpace = .mode)
    (hop : ∀ u : State, u.InRow → Answers (op u)) : Answers (modeWord n op s) := by
  rw [modeWord_of_space hsp (h.refProblem_eq_none hr)]
  exact hop _ (h.searched n)

theorem vertical_answers (h : s.InRow) (d : Int) : Answers (vertical d s) :=
  answers_ite (fun _ => answers_next) fun hle => answers_ite (fun _ => answers_next) fun _ =>
    answers_fill (h.fits (by omega)) answers_next

theorem pass_answers (h : s.InRow) : Answers (pass s) :=
  answers_fill (h.fits (findB2_le_width s s.b1)) answers_next

theorem padEofb_answers (h : s.InRow) : Answers (padEofb s) := by
  refine answers_fill (h.fits le_rfl) (answers_fill ?_ answers_next)
  rw [Nat.zero_mul, Nat.zero_add]
  exact h.image_le_outCap

theorem execEolAtMode_answers (h : s.InRow) (hsp : s.codeSpace = .mode) : Answers (execEolAtMode s) := by
  unfold execEolAtMode
  rw [if_pos hsp]
  cases s.command with
  | g4 => exact padEofb_answers h
  | g31d => exact answers_next
  | g32d => exact answers_next
  | reserved => exact answers_next

theorem extension_answers (hsp : s.codeSpace = .mode) : Answers (extension s) := by
  rw [extension, if_pos hsp]
  exact answers_next

/-! ### Rows -/

theorem rowWithoutEol_answers (s : State) : Answers (rowWithoutEol s) := by
  unfold rowWithoutEol
  cases s.command <;> exact answers_next

theorem rowLoop_answers (s : State) : Answers (rowLoop s) :=
  answers_ite (fun _ => rowWithoutEol_answers s) fun _ => answers_next

theorem execLeol_answers (hsp : s.codeSpace = .rowStart) (zeros : Nat) : Answers (execLeol zeros s) := by
  rw [execLeol, if_pos hsp]
  exact answers_next

theorem execTag1_answers (hsp : s.codeSpace = .tag) : Answers (execTag1 s) := by
  rw [execTag1, if_pos hsp]
  exact answers_next

theorem execTag0_answers (hsp : s.codeSpace = .tag) : Answers (execTag0 s) := by
  rw [execTag0, if_pos hsp]
  exact answers_ite (fun _ => answers_next) fun _ => answers_next

/-! ### Steps -/

/-- Each operation of a running command answers a next state in its own code space. -/
theorem StepOp.answers (hop : StepOp bits sp op) (hsp : s.codeSpace = sp) (hinv : s.Inv) (hb : s.status = .busy)
    (hc : s.cmdStart = false) : Answers (op s) := by
  have inRow (hp : s.pos ≠ .rowStart) : s.InRow := inRow_of_pos hinv hb hc hp
  have runs {c : Colour} (hsp : s.codeSpace = runSpace c) : s.InRow :=
    inRow (by obtain hp | hp | hp := pos_of_runSpace hsp <;> simp [hp])
  have modes (hsp : s.codeSpace = .mode) : s.InRow ∧ s.ref ≠ .none := by
    have hp := pos_of_modeSpace hsp
    obtain ⟨-, -, -, -, hpos⟩ := busyOk_of_inv hinv hb hc
    obtain ⟨-, hr, -⟩ := (posOk_2D (.inl hp)).mp hpos
    exact ⟨inRow (by simp [hp]), hr⟩
  have modeOp {n : Nat} {f : State → Result} (hsp : s.codeSpace = .mode) (hf : ∀ u : State, u.InRow → Answers (f u)) :
      Answers (modeWord n f s) := modeWord_answers (modes hsp).1 (modes hsp).2 hsp hf
  cases hop with
  | start k =>
    rw [codeSpace_eq_command, hc] at hsp
    cases hsp.2
  | runWord c n run k _ => exact runWord_answers (runs hsp) hsp n run k
  | runMiss c => exact runStop_answers (runs hsp)
  | vertical n d _ => exact modeOp hsp fun u hu => vertical_answers hu d
  | pass => exact modeOp hsp fun u hu => pass_answers hu
  | horizontal => exact modeOp hsp fun _ _ => answers_next
  | extension => exact extension_answers hsp
  | eolAtMode => exact execEolAtMode_answers (modes hsp).1 hsp
  | modeMiss => exact answers_next
  | leol zeros _ _ => exact execLeol_answers hsp zeros
  | noLeadingEol => exact rowWithoutEol_answers s
  | tag1 => exact execTag1_answers hsp
  | tag0 => exact execTag0_answers hsp
  | noCodeSpace => exact rowLoop_answers s

/-- Settles O4: an idle step, the start sequence of the selected command, or an operation of the running command. -/
theorem stepNeverStops : Obligations.StepNeverStops := by
  intro s hinv
  by_cases hb : s.status = .busy
  · cases hc : s.cmdStart with
    | true =>
      have hsp : s.codeSpace = .command := codeSpace_eq_command.mpr ⟨hb, hc⟩
      rw [step_of_command hsp, exec_command_of_space hsp rfl]
      exact answers_next
    | false =>
      obtain ⟨op, hop, hstep⟩ := step_op s
      rw [hstep s (awake_iff.mpr hb) rfl]
      exact hop.answers rfl hinv hb hc
  · exact ⟨s, step_idle (decide_eq_false hb)⟩

end Sys2Proof.Machine
end


section
/-! PROOFS. Which output bytes a step stores to. `Paints s t e` says that a step from `s` to `t` stores colour bytes from the first byte
that the command has not written up to below `e`, that `e` lies within the image, and that in `t` the command has written no more than
that. Every step of a running command that does not abort is such a step, which settles O9 and O11. -/

namespace Sys2Proof.Machine

variable {s t : State} {m : Memory} {lo mid e : Nat}

/-! ### Colour bytes -/

/-- `Byte(c)` of a colour (spec/10_state.md R25). -/
def State.IsColour (s : State) (v : Byte) : Prop :=
  v = s.byteOf .white ∨ v = s.byteOf .black

theorem isColour_byteOf (s : State) (c : Colour) : s.IsColour (s.byteOf c) := by
  cases c
  · exact .inl rfl
  · exact .inr rfl

/-- `m` is the output space of `s` with colour bytes stored from `lo` to below `hi`. -/
structure State.Painted (s : State) (lo hi : Nat) (m : Memory) : Prop where
  wf : m.wf = true
  inside : ∀ a, lo ≤ a → a < hi → s.IsColour (m.read a)
  outside : ∀ a, a < lo ∨ hi ≤ a → m.read a = s.output.read a

theorem painted_refl (h : s.output.wf = true) (lo : Nat) : s.Painted lo lo s.output :=
  ⟨h, fun _ _ _ => by omega, fun _ _ => rfl⟩

/-- A fill of a colour from the end of what is painted paints on to the end of the fill. -/
theorem State.Painted.fill (h : s.Painted lo mid m) (hle : lo ≤ mid) (c : Colour) (n : Nat) :
    s.Painted lo (mid + n) (m.fill mid (s.byteOf c) n) := by
  refine ⟨Memory.wf_fill h.wf, fun a hlo hhi => ?_, fun a ha => ?_⟩
  · rw [Memory.read_fill h.wf]
    split
    · exact isColour_byteOf s c
    · exact h.inside a hlo (by omega)
  · rw [Memory.read_fill h.wf, if_neg (by omega)]
    exact h.outside a (by omega)

/-! ### What each step of a running command paints -/

/-- A step from `s` to `t` stores colour bytes below `e`, and nothing else, after what the command has written. -/
structure Paints (s t : State) (e : Nat) : Prop where
  written_le : t.written ≤ e
  le_image : e ≤ s.rows * s.cfgWidth
  painted : s.Painted s.written e t.output

theorem loop1D_output (s : State) : s.loop1D.output = s.output := by
  obtain ⟨-, h⟩ | ⟨-, h⟩ := loop1D_cases s <;> rw [h]
  · rfl
  · exact endRow_output s

theorem loop2D_output (s : State) : s.loop2D.output = s.output := by
  obtain ⟨-, h⟩ | ⟨-, h⟩ := loop2D_cases s <;> rw [h]
  exact endRow_output s

theorem endRow_written_le (h : s.Running) (hw : s.cfgWidth ≤ s.unpacked) :
    s.endRow.written ≤ s.row * s.cfgWidth + s.unpacked := by
  rw [endRow_written h, Nat.add_one_mul]
  omega

theorem loop1D_written_le (h : s.Running) : s.loop1D.written ≤ s.row * s.cfgWidth + s.unpacked := by
  obtain ⟨-, hl⟩ | ⟨hw, hl⟩ := loop1D_cases s <;> rw [hl]
  · exact (written_inRow (s := s.enterRun .run) ⟨h.busy, h.started⟩ (by simp)).le
  · exact endRow_written_le h hw

theorem loop2D_written_le (h : s.Running) : s.loop2D.written ≤ s.row * s.cfgWidth + s.unpacked := by
  obtain ⟨-, hl⟩ | ⟨hw, hl⟩ := loop2D_cases s <;> rw [hl]
  · exact (written_inRow (s := { s with pos := .mode }) ⟨h.busy, h.started⟩ (by simp)).le
  · exact endRow_written_le h hw

theorem beginLine1D_output (s : State) : s.beginLine1D.output = s.output := loop1D_output _

theorem beginLine2D_output (s : State) : s.beginLine2D.output = s.output := loop2D_output _

theorem beginLine1D_written_le (h : s.Running) : s.beginLine1D.written ≤ s.row * s.cfgWidth :=
  loop1D_written_le (s := { s with unpacked := 0, color := .white }) ⟨h.busy, h.started⟩

theorem beginLine2D_written_le (h : s.Running) : s.beginLine2D.written ≤ s.row * s.cfgWidth :=
  loop2D_written_le (s := { s with a0 := -1, unpacked := 0, color := .white }) ⟨h.busy, h.started⟩

theorem afterRun1D_written_le (h : s.Running) :
    s.afterRun1D.loop1D.written ≤ s.row * s.cfgWidth + (s.unpacked + s.runAcc) :=
  loop1D_written_le (s := s.afterRun1D) ⟨h.busy, h.started⟩

theorem afterVertical_written_le (h : s.Running) (d : Int) :
    (s.afterVertical d).loop2D.written ≤ s.row * s.cfgWidth + (s.b1 + d).toNat :=
  loop2D_written_le (s := s.afterVertical d) ⟨h.busy, h.started⟩

theorem afterPass_written_le (h : s.Running) :
    s.afterPass.loop2D.written ≤ s.row * s.cfgWidth + s.findB2 s.b1 :=
  loop2D_written_le (s := s.afterPass) ⟨h.busy, h.started⟩

theorem afterRuns2D_output (s : State) :
    s.afterRuns2D.loop2D.output = ((s.filled s.row s.unpacked (s.unpacked + s.hRun1) s.color).filled s.row
      (s.unpacked + s.hRun1) (s.unpacked + s.hRun1 + s.runAcc) s.color.opp).output :=
  loop2D_output s.afterRuns2D

theorem afterRuns2D_written_le (h : s.Running) :
    s.afterRuns2D.loop2D.written ≤ s.row * s.cfgWidth + (s.unpacked + s.hRun1 + s.runAcc) :=
  loop2D_written_le (s := s.afterRuns2D) ⟨h.busy, h.started⟩

/-- At a word inside a row the command has written up to `UNPACKED`, which lies before the end of the row. -/
theorem written_of_inv (hinv : s.Inv) (hb : s.status = .busy) (hc : s.cmdStart = false)
    (hp : ¬ (s.pos = .rowStart ∨ s.pos = .tag)) :
    s.InRow ∧ s.written = s.row * s.cfgWidth + s.unpacked ∧ s.unpacked ≤ s.cfgWidth := by
  obtain ⟨hrs, htag⟩ := not_or.mp hp
  obtain ⟨-, -, -, -, hpos⟩ := busyOk_of_inv hinv hb hc
  refine ⟨inRow_of_pos hinv hb hc hrs, written_inRow ⟨hb, hc⟩ hp, ?_⟩
  cases hs : s.pos with
  | rowStart => exact absurd hs hrs
  | tag => exact absurd hs htag
  | run => exact ((posOk_run hs).mp hpos).1.le
  | mode => exact ((posOk_2D (.inl hs)).mp hpos).1.le
  | hRun1 => exact ((posOk_2D (.inr (.inl hs))).mp hpos).1.le
  | hRun2 => exact ((posOk_2D (.inr (.inr hs))).mp hpos).1.le

/-- What a command has written lies within the image. -/
theorem written_le_image (hinv : s.Inv) (hb : s.status = .busy) (hc : s.cmdStart = false) :
    s.written ≤ s.rows * s.cfgWidth := by
  by_cases hp : s.pos = .rowStart ∨ s.pos = .tag
  · obtain ⟨-, hrow, -⟩ := busyOk_of_inv hinv hb hc
    rw [written_rowHead ⟨hb, hc⟩ hp]
    exact Nat.mul_le_mul_right _ hrow
  · obtain ⟨h, hw, hle⟩ := written_of_inv hinv hb hc hp
    rw [hw]
    exact h.le_image hle

theorem paints_nothing (hwf : s.output.wf = true) (hle : s.written ≤ s.rows * s.cfgWidth) (ho : t.output = s.output)
    (hw : t.written ≤ s.written) : ∃ e, Paints s t e :=
  ⟨s.written, hw, hle, ho ▸ painted_refl hwf _⟩

/-- Two fills, the second where the first ends, the first where the command stands. -/
theorem paints_fill_fill {mid row lo hi : Nat} {c c' : Colour} (hwf : s.output.wf = true)
    (hw : s.written = s.row * s.cfgWidth + s.unpacked) (hmid : s.unpacked ≤ mid)
    (hlo : row * s.cfgWidth + lo = s.row * s.cfgWidth + mid) (hhi : lo ≤ hi) (hle : row * s.cfgWidth + hi ≤ s.rows * s.cfgWidth)
    (ho : t.output = ((s.filled s.row s.unpacked mid c).filled row lo hi c').output) (ht : t.written ≤ row * s.cfgWidth + hi) :
    ∃ e, Paints s t e := by
  have hfirst : s.Painted s.written (row * s.cfgWidth + lo) (s.filled s.row s.unpacked mid c).output := by
    have h := (painted_refl hwf s.written).fill le_rfl c (mid - s.unpacked)
    rw [hw] at h ⊢
    rwa [Nat.add_assoc, Nat.add_sub_cancel' hmid, ← hlo] at h
  have hboth := hfirst.fill (by omega) c' (hi - lo)
  rw [Nat.add_assoc, Nat.add_sub_cancel' hhi] at hboth
  exact ⟨row * s.cfgWidth + hi, ht, hle, ho ▸ hboth⟩

/-- A fill of the current row, from where the command stands. -/
theorem paints_fill {hi : Nat} {c : Colour} (h : s.InRow) (hw : s.written = s.row * s.cfgWidth + s.unpacked)
    (hlo : s.unpacked ≤ s.cfgWidth) (hhi : hi ≤ s.cfgWidth) (ho : t.output = (s.filled s.row s.unpacked hi c).output)
    (ht : t.written ≤ s.row * s.cfgWidth + hi) : ∃ e, Paints s t e := by
  refine ⟨s.written + (hi - s.unpacked), by omega, ?_, ?_⟩
  · have hend := h.le_image (hi := s.unpacked + (hi - s.unpacked)) (by omega)
    omega
  · rw [ho, State.filled, ← hw]
    exact (painted_refl h.output_wf _).fill le_rfl c _

/-- Every step of a running command aborts it or paints. -/
theorem RunningStep.paints (h : RunningStep s t) (hinv : s.Inv) (hb : s.status = .busy) (hc : s.cmdStart = false) :
    (∃ code, t = s.abort code) ∨ ∃ e, Paints s t e := by
  obtain ⟨-, hout, -⟩ := id hinv
  have nothing {t : State} (ho : t.output = s.output) (hw : t.written ≤ s.written) :
      (∃ code, t = s.abort code) ∨ ∃ e, Paints s t e :=
    .inr (paints_nothing hout (written_le_image hinv hb hc) ho hw)
  have begin1D {u : State} (hu : u.Running) (ho : u.output = s.output) (hw : u.row * u.cfgWidth ≤ s.written) :=
    nothing ((beginLine1D_output u).trans ho) ((beginLine1D_written_le hu).trans hw)
  have begin2D {u : State} (hu : u.Running) (ho : u.output = s.output) (hw : u.row * u.cfgWidth ≤ s.written) :=
    nothing ((beginLine2D_output u).trans ho) ((beginLine2D_written_le hu).trans hw)
  have atHead (hp : s.pos = .rowStart ∨ s.pos = .tag) : s.written = s.row * s.cfgWidth := written_rowHead ⟨hb, hc⟩ hp
  have inRow (hp : ¬ (s.pos = .rowStart ∨ s.pos = .tag)) := written_of_inv hinv hb hc hp
  cases h with
  | abort code _ => exact .inl ⟨code, rfl⟩
  | finish hp hr =>
    refine nothing rfl ?_
    rw [atHead (.inl hp)]
    exact Nat.mul_le_mul_right _ hr
  | padRow ht =>
    obtain ⟨-, hp, hr⟩ := toleratesRunStop_iff.mp ht
    obtain ⟨h, hw, hlo⟩ := inRow (by simp [hp])
    refine .inr (paints_fill h hw hlo le_rfl rfl ?_)
    change s.rows * s.cfgWidth ≤ _
    rw [← hr, Nat.add_one_mul]
  | padImage hp _ =>
    obtain ⟨h, hw, hlo⟩ := inRow (by simp [hp])
    refine .inr (paints_fill_fill hout hw hlo ?_ (Nat.mul_le_mul_right _ h.row_lt) ?_ rfl ?_)
    · rw [Nat.zero_mul, Nat.zero_add, Nat.add_one_mul]
    · rw [Nat.zero_mul, Nat.zero_add]
    · rw [Nat.zero_mul, Nat.zero_add]
      exact le_rfl
  | makeup n run _ _ => exact nothing rfl le_rfl
  | run1D n run _ hp hle =>
    obtain ⟨h, hw, hlo⟩ := inRow (by simp [hp])
    exact .inr (paints_fill h hw hlo hle (loop1D_output _) (afterRun1D_written_le (s := s.addRun n run) ⟨hb, hc⟩))
  | firstRun n run _ hp =>
    obtain ⟨-, hw, -⟩ := inRow (by simp [hp])
    exact nothing rfl ((written_inRow (s := (s.addRun n run).endHRun1) ⟨hb, hc⟩ (by simp [State.endHRun1])).le.trans hw.ge)
  | secondRun n run _ hp hle =>
    obtain ⟨h, hw, hlo⟩ := inRow (by simp [hp])
    exact .inr (paints_fill_fill hout hw (Nat.le_add_right _ s.hRun1) rfl (Nat.le_add_right _ (s.runAcc + run))
      (h.le_image hle) (afterRuns2D_output (s.addRun n run)) (afterRuns2D_written_le (s := s.addRun n run) ⟨hb, hc⟩))
  | vertical n d _ hp hle _ =>
    obtain ⟨h, hw, hlo⟩ := inRow (by simp [hp])
    exact .inr (paints_fill h hw hlo (Int.toNat_le.mpr hle) (loop2D_output _)
      (afterVertical_written_le (s := s.searched n) ⟨hb, hc⟩ d))
  | pass hp =>
    obtain ⟨h, hw, hlo⟩ := inRow (by simp [hp])
    exact .inr (paints_fill h hw hlo (findB2_le_width (s.searched 4) _) (loop2D_output _)
      (afterPass_written_le (s := s.searched 4) ⟨hb, hc⟩))
  | horizontal hp =>
    obtain ⟨-, hw, -⟩ := inRow (by simp [hp])
    exact nothing rfl ((written_inRow (s := (s.searched 3).enterRun .hRun1) ⟨hb, hc⟩ (by simp)).le.trans hw.ge)
  | leol1D zeros _ hp _ _ =>
    exact begin1D (u := { s.advance (zeros + 1) with eolSeen := true }) ⟨hb, hc⟩ rfl (atHead (.inl hp)).ge
  | leol2D zeros _ hp _ _ =>
    exact nothing rfl ((written_rowHead (s := { s.advance (zeros + 1) with pos := .tag }) ⟨hb, hc⟩ (.inr rfl)).le.trans
      (atHead (.inl hp)).ge)
  | noEol1D hp _ _ => exact begin1D (u := { s with eolSeen := false }) ⟨hb, hc⟩ rfl (atHead (.inl hp)).ge
  | rowG4 hp _ _ => exact begin2D (u := s) ⟨hb, hc⟩ rfl (atHead (.inl hp)).ge
  | tag1 hp => exact begin1D (u := s.advance 1) ⟨hb, hc⟩ rfl (atHead (.inr hp)).ge
  | tag0 hp _ => exact begin2D (u := s.advance 1) ⟨hb, hc⟩ rfl (atHead (.inr hp)).ge

/-! ### The image and the bytes above it -/

theorem written_of_fault (h : s.status = .fault) : s.written = 0 := by
  rw [State.written, h]

theorem initDatapath_written (s : State) : s.initDatapath.written = 0 := by
  rw [written_rowHead (s := s.initDatapath) ⟨rfl, rfl⟩ (.inl rfl), State.initDatapath_row, Nat.zero_mul]

/-- Where nothing is written, nothing is asked of the image. -/
theorem imageInv_of_written_zero (h : s.written = 0) : s.imageInv :=
  fun a ha => absurd (h ▸ ha) (Nat.not_lt_zero a)

theorem byteOf_of_settings (h : t.settings = s.settings) (c : Colour) : t.byteOf c = s.byteOf c := by
  simp only [State.settings, hostReadConfig, Prod.mk.injEq, ConfigValues.mk.injEq] at h
  obtain ⟨⟨-, -, hphot, -⟩, -⟩ := h
  cases c <;> simp only [State.byteOf, hphot]

/-- What is painted after the written bytes is written with them. -/
theorem Paints.imageInv (h : Paints s t e) (hset : t.settings = s.settings) (him : s.imageInv) : t.imageInv := by
  intro a ha
  have hlt : a < e := ha.trans_le h.written_le
  rw [byteOf_of_settings hset, byteOf_of_settings hset]
  obtain hold | hnew := Nat.lt_or_ge a s.written
  · rw [h.painted.outside a (.inl hold)]
    exact him a hold
  · exact h.painted.inside a hnew hlt

/-- Settles O9: a step that ends in no fault paints on from what was written. -/
theorem stepKeepsImageBytes : Obligations.StepKeepsImageBytes := by
  intro s t hinv him h
  have hset := step_settings h
  obtain ⟨-, rfl⟩ | ⟨-, -, rfl⟩ | ⟨hb, hc, h⟩ := step_cases h
  · exact him
  · obtain ⟨h, -⟩ | ⟨code, -, h⟩ := start_cases s <;> rw [h]
    · exact imageInv_of_written_zero (initDatapath_written s)
    · exact imageInv_of_written_zero (written_of_fault rfl)
  · obtain ⟨code, rfl⟩ | ⟨e, h⟩ := h.paints hinv hb hc
    · exact imageInv_of_written_zero (written_of_fault rfl)
    · exact h.imageInv hset him

/-- Settles O11: a step paints within the image, and an abort leaves free bytes only there. -/
theorem stepKeepsBytesAboveImage : Obligations.StepKeepsBytesAboveImage := by
  intro s t hinv h a ha
  obtain ⟨-, hout, -⟩ := id hinv
  obtain ⟨-, rfl⟩ | ⟨-, -, rfl⟩ | ⟨hb, hc, h⟩ := step_cases h
  · rfl
  · obtain ⟨h, -⟩ | ⟨code, -, h⟩ := start_cases s <;> rw [h]
    · rfl
    · exact abort_read_above (s := s.initDatapath) hout ha
  · obtain ⟨code, rfl⟩ | ⟨e, h⟩ := h.paints hinv hb hc
    · exact abort_read_above hout ha
    · exact h.painted.outside a (.inr (h.le_image.trans ha))

end Sys2Proof.Machine
end

section
/-! PROOFS. The bit reader, the fill, and the output bytes that a run-length word leaves unchanged. -/

namespace Sys2Proof.Machine

variable {s t : State} {row lo hi a : Nat} {c : Colour}

/-! ### The bit reader (spec/20_memory.md R62, R63, R66) -/

theorem streamBit_past_end {k : Nat} (h : 8 * s.inLen ≤ k) : s.streamBit k = false := if_pos h

theorem streamBit_inside {k : Nat} (h : k < 8 * s.inLen) :
    s.streamBit k = streamBitOf s.cfgLsbFirst (s.inByte (k / 8)) (k % 8) := if_neg (by omega)

/-- Settles O22: past the end, and inside in both bit orders. -/
theorem streamBitOrder : Obligations.StreamBitOrder := by
  intro s k
  refine ⟨streamBit_past_end, fun hk hl => ?_, fun hk hl => ?_⟩
  · rw [streamBit_inside hk, hl]
    rfl
  · rw [streamBit_inside hk, hl]
    rfl

/-- Settles O24: the quotient rounded up, times 8. -/
theorem alignByteRoundsUp : Obligations.AlignByteRoundsUp := by
  intro s
  rw [State.alignByte_bitpos]
  exact ⟨rfl, Nat.dvd_mul_right _ _, by omega, by omega, fun h => by omega⟩

/-- One more bit at the end is the new least significant one. -/
theorem bitsToNat_concat (bits : List Bool) (b : Bool) : bitsToNat (bits ++ [b]) = 2 * bitsToNat bits + b.toNat := by
  simp only [bitsToNat, List.foldl_append, List.foldl_cons, List.foldl_nil]

theorem peekBits_succ (s : State) (n : Nat) : s.peekBits (n + 1) = s.peekBits n ++ [s.streamBit (s.bitpos + n)] := by
  simp only [State.peekBits, List.range_succ, List.map_append, List.map_cons, List.map_nil]

theorem peek_succ (s : State) (n : Nat) : s.peek (n + 1) = 2 * s.peek n + (s.streamBit (s.bitpos + n)).toNat := by
  rw [State.peek, peekBits_succ, bitsToNat_concat, State.peek]

/-- The bits from `k` on, the first of `n` the most significant, as a sum. -/
theorem shiftedSum_succ (f : Nat → Nat) (n : Nat) :
    ((List.range (n + 1)).map fun i => f i <<< (n + 1 - 1 - i)).sum =
      2 * ((List.range n).map fun i => f i <<< (n - 1 - i)).sum + f n := by
  have hshift : ∀ i ∈ List.range n, f i <<< (n + 1 - 1 - i) = 2 * f i <<< (n - 1 - i) := by
    intro i hi
    have hi : i < n := List.mem_range.mp hi
    rw [show n + 1 - 1 - i = (n - 1 - i) + 1 by omega, Nat.shiftLeft_succ]
  rw [List.range_succ, List.map_append, List.sum_append, List.map_congr_left hshift, List.sum_map_mul_left]
  simp

/-- Settles O23: by induction on the number of bits, each doubling what stands before it. -/
theorem peekIsLeftJustified : Obligations.PeekIsLeftJustified := by
  intro s n
  refine ⟨?_, fun hend => ?_⟩
  · induction n with
    | zero => rfl
    | succ n ih => rw [peek_succ, ih, shiftedSum_succ]
  · induction n with
    | zero => rfl
    | succ n ih => rw [peek_succ, ih, streamBit_past_end (hend.trans (Nat.le_add_right _ n)), Bool.toNat_false]

/-! ### The fill (spec/20_memory.md R71) -/

theorem filled_read (hwf : s.output.wf = true) :
    (s.filled row lo hi c).output.read a =
      if row * s.cfgWidth + lo ≤ a ∧ a < row * s.cfgWidth + hi then s.byteOf c else s.output.read a := by
  rw [State.filled, Memory.read_fill hwf]
  exact if_congr (by omega) rfl rfl

/-- Settles O25: the fill fits, so it stores what `filled` stores. -/
theorem fillWritesItsBytes : Obligations.FillWritesItsBytes :=
  fun row lo hi c s hwf hcap => ⟨s.filled row lo hi c, fill_of_fits hcap, rfl, fun _ => filled_read hwf⟩

/-! ### What a run-length word stores to (spec/45_one_dimensional.md R401, spec/46_two_dimensional.md R423) -/

theorem filled_read_outside (hwf : s.output.wf = true) (ha : a < row * s.cfgWidth + lo ∨ row * s.cfgWidth + hi ≤ a) :
    (s.filled row lo hi c).output.read a = s.output.read a := by
  rw [filled_read hwf, if_neg (by omega)]

/-- A finished run of a 1-D row stores its pixels only. -/
theorem endRun1D_read (h : endRun1D s = .next t) (hf : t.status ≠ .fault) (hwf : s.output.wf = true)
    (ha : a < s.row * s.cfgWidth + s.unpacked ∨ s.row * s.cfgWidth + s.unpacked + s.runAcc ≤ a) :
    t.output.read a = s.output.read a := by
  obtain ⟨-, rfl⟩ | ⟨-, rfl⟩ := endRun1D_cases h
  · exact absurd rfl hf
  · rw [loop1D_output]
    exact filled_read_outside hwf (by omega)

/-- The second run of a Horizontal mode stores the pixels of both runs only. -/
theorem endHRun2_read (h : endHRun2 s = .next t) (hf : t.status ≠ .fault) (hwf : s.output.wf = true)
    (ha : a < s.row * s.cfgWidth + s.unpacked ∨ s.row * s.cfgWidth + s.unpacked + (s.hRun1 + s.runAcc) ≤ a) :
    t.output.read a = s.output.read a := by
  obtain ⟨-, rfl⟩ | ⟨-, rfl⟩ := endHRun2_cases h
  · exact absurd rfl hf
  · rw [loop2D_output]
    have hfirst : (s.filled s.row s.unpacked (s.unpacked + s.hRun1) s.color).output.read a = s.output.read a :=
      filled_read_outside hwf (by omega)
    refine Eq.trans (filled_read_outside (filled_wf hwf) ?_) hfirst
    change a < s.row * s.cfgWidth + _ ∨ s.row * s.cfgWidth + _ ≤ a
    omega

/-- A run that no terminating code ends stores to the end of its row only (spec/47_line_orchestrators.md R468). -/
theorem runStop_read {code : FaultCode} (h : runStop code s = .next t) (hf : t.status ≠ .fault) (hwf : s.output.wf = true)
    (ha : a < s.row * s.cfgWidth + s.unpacked ∨ s.row * s.cfgWidth + s.unpacked + (s.cfgWidth - s.unpacked) ≤ a) :
    t.output.read a = s.output.read a := by
  obtain ⟨-, rfl⟩ | ⟨-, rfl⟩ := runStop_cases h
  · exact absurd rfl hf
  · exact filled_read_outside hwf (by omega)

/-- Settles O57: the kinds of a run-length word, and for a terminating one the run that it ends. -/
theorem runWordMemoryFrame : Obligations.RunWordMemoryFrame := by
  intro c e s t a he hwf h hf base stored ha
  rw [runTable_meaning c e he] at h
  obtain ⟨hsp, ⟨-, rfl⟩ | ⟨hk, h⟩ | ⟨hk, h⟩⟩ := runWord_cases h
  · rfl
  · let u := s.addRun e.bitsRequired e.runLength
    obtain hp | hp | hp := pos_of_runSpace hsp <;> simp only [endRun, State.addRun_pos, hp] at h <;>
      simp only [stored, hk, hp, reduceCtorEq, if_true, if_false] at ha
    · exact endRun1D_read (s := u) h hf hwf ha
    · cases h
      rfl
    · exact endHRun2_read (s := u) h hf hwf ha
  · simp only [stored, hk] at ha
    exact runStop_read h hf hwf ha

end Sys2Proof.Machine
end

section
/-! PROOFS. What the decoder accepts stands at the cursor, which settles O15. A window is the number of its bits
(`codeBits_windowOf`), the leading bits of a number are those of its quotient by a power of two (`codeBits_prefix`), and each table
entry's code is such a quotient of the window. -/

namespace Sys2Proof.Machine

variable {bits : List Bool} {i : Instr} {w n m : Nat}

/-! ### The bits of a number -/

theorem codeBits_length (n v : Nat) : (codeBits n v).length = n := by
  rw [codeBits, List.length_map, List.length_range]

/-- The `k` low bits stand after the bits of the quotient. -/
theorem codeBits_add (m k v : Nat) : codeBits (m + k) v = codeBits m (v >>> k) ++ codeBits k v := by
  rw [codeBits, List.range_add, List.map_append, List.map_map]
  refine congrArg₂ (· ++ ·) (List.map_congr_left fun i hi => ?_) (List.map_congr_left fun i _ => ?_)
  · have hi : i < m := List.mem_range.mp hi
    rw [Nat.testBit_shiftRight]
    congr 1
    omega
  · simp only [Function.comp_apply]
    congr 1
    omega

theorem codeBits_prefix (h : m ≤ n) (v : Nat) : codeBits m (v >>> (n - m)) <+: codeBits n v := by
  have hadd := codeBits_add m (n - m) v
  rw [Nat.add_sub_cancel' h] at hadd
  exact hadd ▸ List.prefix_append _ _

theorem codeBits_mod (n v : Nat) : codeBits n (v % 2 ^ n) = codeBits n v := by
  refine List.map_congr_left fun i hi => ?_
  have hi : i < n := List.mem_range.mp hi
  rw [Nat.testBit_mod_two_pow, decide_eq_true (by omega), Bool.true_and]

theorem codeBits_bitsToNat (bits : List Bool) : codeBits bits.length (bitsToNat bits) = bits := by
  induction bits using List.reverseRecOn with
  | nil => rfl
  | append_singleton bits b ih =>
    have hhigh : (2 * bitsToNat bits + b.toNat) >>> 1 = bitsToNat bits := by
      cases b <;> simp only [Bool.toNat_false, Bool.toNat_true, Nat.shiftRight_one] <;> omega
    have hlow : codeBits 1 (2 * bitsToNat bits + b.toNat) = [b] := by
      cases b <;> simp [codeBits]
    rw [List.length_append, List.length_singleton, bitsToNat_concat, codeBits_add, hhigh, hlow, ih]

theorem bitsToNat_lt (bits : List Bool) : bitsToNat bits < 2 ^ bits.length := by
  induction bits using List.reverseRecOn with
  | nil => exact Nat.one_pos
  | append_singleton bits b ih =>
    have hb : b.toNat ≤ 1 := Bool.toNat_le b
    rw [bitsToNat_concat, List.length_append, List.length_singleton, Nat.pow_succ]
    omega

/-! ### Windows -/

theorem window_length (n : Nat) (bits : List Bool) : ((bits ++ List.replicate n false).take n).length = n := by
  simp

theorem windowOf_lt (n : Nat) (bits : List Bool) : windowOf n bits < 2 ^ n := by
  have h := bitsToNat_lt ((bits ++ List.replicate n false).take n)
  rwa [window_length] at h

/-- The bits of a window are those at the cursor, zero-padded (spec/20_memory.md R63). -/
theorem codeBits_windowOf (n : Nat) (bits : List Bool) :
    codeBits n (windowOf n bits) = (bits ++ List.replicate n false).take n := by
  have h := codeBits_bitsToNat ((bits ++ List.replicate n false).take n)
  rwa [window_length] at h

theorem window_prefix (h : n ≤ 16) (bits : List Bool) : codeBits n (windowOf n bits) <+: bits ++ List.replicate 16 false := by
  rw [codeBits_windowOf]
  refine (List.take_prefix _ _).trans ((List.prefix_append_right_inj _).mpr ⟨List.replicate (16 - n) false, ?_⟩)
  rw [← List.replicate_add, Nat.add_sub_cancel' h]

/-! ### Run-length words -/

/-- What the tables and the encoder say of a run-length word. -/
theorem runTable_encode (c : Colour) : ∀ e ∈ runTable c,
    e.instr.space = runSpace c ∧ e.instr.wf = true ∧ encode e.instr = codeBits e.bitsRequired e.code := by
  cases c <;> decide

/-- A run-length word that the decoder accepts stands at the head of the window. -/
theorem decodeRunWindow_encode {c : Colour} (h : decodeRunWindow (runTable c) w = .ok i) :
    i.space = runSpace c ∧ i.wf = true ∧ encode i <+: codeBits 16 w := by
  obtain ⟨e, he, rfl, hcode⟩ := decodeRunWindow_ok h
  obtain ⟨hspace, hwf, henc⟩ := runTable_encode c e he
  obtain ⟨-, hlen⟩ := runTable_bitsRequired c e he
  refine ⟨hspace, hwf, ?_⟩
  rw [henc, ← hcode]
  exact codeBits_prefix (by omega) w

/-! ### Mode words -/

theorem modeInstr_space (ext : BitVec 5) (mode : Mode) : (modeInstr ext mode).space = .mode := by
  cases mode <;> rfl

/-- Only the Extension1D escape with the extension bits of the EOL is no word (spec/43_mode_codes.md R350, R361). -/
theorem modeInstr_wf {ext : BitVec 5} {mode : Mode} (h : mode = .extension1D → ext ≠ 1#5) : (modeInstr ext mode).wf = true := by
  cases mode with
  | extension1D => exact decide_eq_true (h rfl)
  | _ => rfl

theorem modeTable_encode (ext : BitVec 5) : ∀ e ∈ modeTable,
    encode (modeInstr ext e.mode) = codeBits e.bitsRequired e.code ++ codeBits e.extensionBits ext.toNat := by
  simp only [modeTable, List.forall_mem_cons]
  exact ⟨rfl, rfl, rfl, rfl, rfl, rfl, rfl, rfl, rfl, rfl, rfl, fun _ h => absurd h List.not_mem_nil⟩

theorem modeTable_lengths : ∀ e ∈ modeTable, e.bitsRequired ≤ 7 ∧
    (e.extensionBits = 0 ∨ (e.bitsRequired = 7 ∧ e.extensionBits = 5)) := by
  decide

theorem modeTable_extension1D : ∀ e ∈ modeTable, e.mode = .extension1D → e.bitsRequired = 7 ∧ e.code = 0 := by
  decide

/-- A mode entry whose code begins the window is followed by its extension bits. -/
theorem modeEntry_prefix {e : ModeEntry} (he : e ∈ modeTable) (hcode : w >>> 5 >>> (7 - e.bitsRequired) = e.code) :
    encode (modeInstr (BitVec.ofNat 5 w) e.mode) <+: codeBits 12 w := by
  rw [modeTable_encode _ e he, ← hcode, BitVec.toNat_ofNat]
  obtain ⟨hlen, hext | ⟨h7, hext⟩⟩ := modeTable_lengths e he
  · rw [hext, ← Nat.shiftRight_add, show 5 + (7 - e.bitsRequired) = 12 - e.bitsRequired by omega]
    simpa [codeBits] using codeBits_prefix (by omega : e.bitsRequired ≤ 12) w
  · rw [h7, hext, codeBits_mod, Nat.sub_self, Nat.shiftRight_zero, ← codeBits_add]

/-- A mode word that the decoder accepts stands at the head of the window. -/
theorem decodeModeWindow_encode (h : decodeModeWindow w = .ok i) :
    i.space = .mode ∧ i.wf = true ∧ encode i <+: codeBits 12 w := by
  unfold decodeModeWindow modeLookup at h
  split at h
  · cases h
    rename_i hw
    subst hw
    exact ⟨rfl, rfl, List.prefix_rfl⟩
  · rename_i hw
    split at h
    · rename_i e hfind
      cases h
      have he : e ∈ modeTable := List.mem_of_find?_eq_some hfind
      have hcode : w >>> 5 >>> (7 - e.bitsRequired) = e.code := by simpa using List.find?_some hfind
      refine ⟨modeInstr_space _ _, modeInstr_wf fun h1D hext => hw ?_, modeEntry_prefix he hcode⟩
      obtain ⟨h7, h0⟩ := modeTable_extension1D e he h1D
      have hhigh : w / 32 = 0 := by simpa [h7, h0, Nat.shiftRight_eq_div_pow] using hcode
      have hlow : w % 32 = 1 := by simpa using congrArg BitVec.toNat hext
      omega
    · cases h

/-! ### The words of a row's start and the commands -/

/-- Zeros up to a one that lies inside the list. -/
theorem leadingZeros_prefix (bits : List Bool) (h : (bits.takeWhile (fun b => !b)).length < bits.length) :
    List.replicate (bits.takeWhile (fun b => !b)).length false ++ [true] <+: bits := by
  induction bits with
  | nil => cases h
  | cons b bits ih =>
    cases b with
    | true => simp
    | false =>
      simp only [List.takeWhile_cons, Bool.not_false, if_true, List.length_cons, List.replicate_succ, List.cons_append,
        List.cons_prefix_cons, true_and] at h ⊢
      exact ih (by omega)

theorem decodeLeadingEol_encode (h : decodeLeadingEol bits = .ok i) :
    i.space = .rowStart ∧ i.wf = true ∧ encode i <+: bits := by
  unfold decodeLeadingEol at h
  dsimp only at h
  split at h <;> cases h
  rename_i hz
  exact ⟨rfl, decide_eq_true hz.2, leadingZeros_prefix bits hz.1⟩

theorem decodeTag_encode (h : w < 2) :
    (decodeTag w).space = .tag ∧ (decodeTag w).wf = true ∧ encode (decodeTag w) = codeBits 1 w := by
  obtain rfl | rfl : w = 0 ∨ w = 1 := by omega
  · exact ⟨rfl, rfl, rfl⟩
  · exact ⟨rfl, rfl, rfl⟩

theorem commandInstr_encode : ∀ mode : BitVec 2,
    (commandInstr (commandOf mode)).space = .command ∧ (commandInstr (commandOf mode)).wf = true ∧
      encode (commandInstr (commandOf mode)) = codeBits 2 mode.toNat := by
  decide

/-- Settles O15: in every code space the word begins the window, and the window begins the padded bits. -/
theorem decodedWordStandsThere : Obligations.DecodedWordStandsThere := by
  intro sp bits i h
  have window {n : Nat} {sp : CodeSpace} (hn : n ≤ 16)
      (h : i.space = sp ∧ i.wf = true ∧ encode i <+: codeBits n (windowOf n bits)) :
      i.space = sp ∧ i.wf = true ∧ encode i <+: bits ++ List.replicate 16 false :=
    ⟨h.1, h.2.1, h.2.2.trans (window_prefix hn bits)⟩
  cases sp with
  | command =>
    cases h
    obtain ⟨hspace, hwf, henc⟩ := commandInstr_encode (BitVec.ofNat 2 (windowOf 2 bits))
    rw [BitVec.toNat_ofNat, codeBits_mod] at henc
    exact window (n := 2) (by decide) ⟨hspace, hwf, henc ▸ List.prefix_rfl⟩
  | rowStart =>
    obtain ⟨hspace, hwf, hpre⟩ := decodeLeadingEol_encode h
    exact ⟨hspace, hwf, hpre.trans (List.prefix_append _ _)⟩
  | tag =>
    cases h
    obtain ⟨hspace, hwf, henc⟩ := decodeTag_encode (windowOf_lt 1 bits)
    exact window (n := 1) (by decide) ⟨hspace, hwf, henc ▸ List.prefix_rfl⟩
  | white => exact window (by decide) (decodeRunWindow_encode (c := .white) h)
  | black => exact window (by decide) (decodeRunWindow_encode (c := .black) h)
  | mode => exact window (by decide) (decodeModeWindow_encode h)
  | none => cases h

end Sys2Proof.Machine
end

section
/-! PROOFS. The encoding. An encoded word is found again whatever bits follow, because no code of a table begins another
(`find?_of_prefixFree`); a run-length lookup misses exactly where the codes leave a gap (`tilesFrom_isSome`); and the fetch hands the
decoder the bits at the cursor, so that a step runs the word that stands there (`fetchBits_of_encode`). -/

namespace Sys2Proof.Machine

variable {s : State} {bits : List Bool} {i : Instr} {c : Colour} {n m k w : Nat}

/-! ### The number of a list of bits -/

theorem bitsToNat_append (bits tail : List Bool) :
    bitsToNat (bits ++ tail) = 2 ^ tail.length * bitsToNat bits + bitsToNat tail := by
  induction tail using List.reverseRecOn with
  | nil => simp [bitsToNat]
  | append_singleton tail b ih =>
    rw [← List.append_assoc, bitsToNat_concat, bitsToNat_concat, ih, List.length_append, List.length_singleton]
    ring

theorem bitsToNat_codeBits (h : w < 2 ^ n) : bitsToNat (codeBits n w) = w := by
  induction n generalizing w with
  | zero => exact (Nat.lt_one_iff.mp h).symm
  | succ n ih =>
    have hlow : bitsToNat (codeBits 1 w) = w % 2 := by
      rw [← codeBits_mod]
      obtain h0 | h1 := Nat.mod_two_eq_zero_or_one w
      · rw [Nat.pow_one, h0]; rfl
      · rw [Nat.pow_one, h1]; rfl
    rw [codeBits_add, bitsToNat_append, ih (by rw [Nat.shiftRight_one]; omega), codeBits_length, hlow,
      Nat.shiftRight_one]
    omega

/-- The first bits of a window are its quotient by a power of two. -/
theorem windowOf_append_shiftRight (h : bits.length ≤ n) (rest : List Bool) :
    windowOf n (bits ++ rest) >>> (n - bits.length) = bitsToNat bits := by
  let tail := (rest ++ List.replicate n false).take (n - bits.length)
  have htail : tail.length = n - bits.length := by simp [tail]; omega
  have hwindow : windowOf n (bits ++ rest) = bitsToNat (bits ++ tail) := by
    rw [windowOf, List.append_assoc, List.take_append, List.take_of_length_le h]
  rw [hwindow, bitsToNat_append, ← htail, Nat.shiftRight_eq_div_pow, Nat.mul_add_div (Nat.two_pow_pos _),
    Nat.div_eq_of_lt (bitsToNat_lt tail), Nat.add_zero]

theorem windowOf_append_of_length (h : bits.length = n) (rest : List Bool) : windowOf n (bits ++ rest) = bitsToNat bits := by
  have hshift := windowOf_append_shiftRight h.le rest
  rwa [h, Nat.sub_self, Nat.shiftRight_zero] at hshift

/-! ### Tables where no code begins another (spec/30_encoding.md R93) -/

/-- No entry's code begins that of another entry. -/
abbrev PrefixFree {α : Type} (len code : α → Nat) (table : List α) : Prop :=
  ∀ e ∈ table, ∀ e' ∈ table, len e ≤ len e' → code e' >>> (len e' - len e) = code e → e = e'

/-- Of two codes that begin one window the shorter begins the longer. -/
theorem shiftRight_of_window {a b : Nat} (hkm : k ≤ m) (hm : m ≤ n) (ha : w >>> (n - k) = a) (hb : w >>> (n - m) = b) :
    b >>> (m - k) = a := by
  rw [← ha, ← hb, ← Nat.shiftRight_add]
  congr 1
  omega

/-- A lookup in such a table finds the entry whose code begins the window. -/
theorem find?_of_prefixFree {α : Type} {len code : α → Nat} {table : List α} {e : α} (hfree : PrefixFree len code table)
    (hlen : ∀ e ∈ table, len e ≤ n) (he : e ∈ table) (hw : w >>> (n - len e) = code e) :
    table.find? (fun e => w >>> (n - len e) == code e) = some e := by
  cases hfind : table.find? (fun e => w >>> (n - len e) == code e) with
  | none => exact absurd (beq_iff_eq.mpr hw) (List.find?_eq_none.mp hfind e he)
  | some e' =>
    have he' : e' ∈ table := List.mem_of_find?_eq_some hfind
    have hw' : w >>> (n - len e') = code e' := beq_iff_eq.mp (List.find?_some hfind :)
    obtain hle | hle := le_total (len e) (len e')
    · rw [hfree e he e' he' hle (shiftRight_of_window hle (hlen e' he') hw hw')]
    · rw [hfree e' he' e he hle (shiftRight_of_window hle (hlen e he) hw' hw)]

/-! ### Run-length words -/

theorem runTable_prefixFree (c : Colour) : PrefixFree RunEntry.bitsRequired RunEntry.code (runTable c) := by
  cases c <;> decide +kernel

theorem runTable_code_lt (c : Colour) : ∀ e ∈ runTable c, e.code < 2 ^ e.bitsRequired := by
  cases c <;> decide

theorem runTable_length_le (c : Colour) : ∀ e ∈ runTable c, e.bitsRequired ≤ 16 :=
  fun e he => (runTable_bitsRequired c e he).2.trans (by decide)

/-- A run-length word is decoded again (spec/41_run_length_codes.md R120). -/
theorem decodeRunWindow_of_encode {e : RunEntry} (he : e ∈ runTable c) (rest : List Bool) :
    decodeRunWindow (runTable c) (windowOf 16 (encode e.instr ++ rest)) = .ok e.instr := by
  obtain ⟨-, -, henc⟩ := runTable_encode c e he
  have hlen : (encode e.instr).length = e.bitsRequired := by rw [henc, codeBits_length]
  have hcode : bitsToNat (encode e.instr) = e.code := by rw [henc, bitsToNat_codeBits (runTable_code_lt c e he)]
  have hw := windowOf_append_shiftRight (hlen.trans_le (runTable_length_le c e he)) rest
  rw [hlen, hcode] at hw
  rw [decodeRunWindow, runLookup, find?_of_prefixFree (runTable_prefixFree c) (runTable_length_le c) he hw]

/-! ### Mode words -/

theorem modeTable_prefixFree : PrefixFree ModeEntry.bitsRequired ModeEntry.code modeTable := by
  decide

theorem modeTable_code_lt : ∀ e ∈ modeTable, e.code < 2 ^ e.bitsRequired := by
  decide

theorem modeTable_code_zero : ∀ e ∈ modeTable, e.code = 0 → e.mode = .extension1D := by
  decide

/-- Only an escape carries the extension bits of the window (R360, R361). -/
theorem modeInstr_of_no_extension (ext ext' : BitVec 5) : ∀ e ∈ modeTable, e.extensionBits = 0 →
    modeInstr ext e.mode = modeInstr ext' e.mode := by
  simp [modeTable, modeInstr]

/-- The window of a mode word begins with its code, and ends with its extension bits where it has some. -/
theorem window_of_mode {e : ModeEntry} (he : e ∈ modeTable) (ext : BitVec 5) (rest : List Bool)
    (hw : w = windowOf 12 (encode (modeInstr ext e.mode) ++ rest)) :
    w >>> 5 >>> (7 - e.bitsRequired) = e.code ∧ modeInstr (BitVec.ofNat 5 w) e.mode = modeInstr ext e.mode := by
  obtain ⟨hlen, hext⟩ := modeTable_lengths e he
  have hcode := bitsToNat_codeBits (modeTable_code_lt e he)
  have hcodeLen := codeBits_length e.bitsRequired e.code
  rw [modeTable_encode ext e he] at hw
  constructor
  · have hfirst := windowOf_append_shiftRight (n := 12) (hcodeLen.trans_le (by omega))
      (codeBits e.extensionBits ext.toNat ++ rest)
    rwa [← List.append_assoc, ← hw, hcodeLen, hcode, show 12 - e.bitsRequired = 5 + (7 - e.bitsRequired) by omega,
      Nat.shiftRight_add] at hfirst
  · obtain hext | ⟨h7, hext⟩ := hext
    · exact modeInstr_of_no_extension _ _ e he hext
    · rw [windowOf_append_of_length (by rw [List.length_append, codeBits_length, codeBits_length, h7, hext]),
        bitsToNat_append, codeBits_length, hcode, hext, bitsToNat_codeBits ext.isLt] at hw
      have hlow : BitVec.ofNat 5 w = ext := BitVec.eq_of_toNat_eq (by
        rw [BitVec.toNat_ofNat, hw, Nat.mul_add_mod, Nat.mod_eq_of_lt ext.isLt])
      rw [hlow]

/-- A mode word is decoded again (R350). The window is not the EOL's: only an Extension1D escape has a code of zeros, and the one with
the EOL's extension bits is no word. -/
theorem decodeModeWindow_of_encode {e : ModeEntry} {ext : BitVec 5} (he : e ∈ modeTable)
    (hwf : (modeInstr ext e.mode).wf = true) (rest : List Bool) :
    decodeModeWindow (windowOf 12 (encode (modeInstr ext e.mode) ++ rest)) = .ok (modeInstr ext e.mode) := by
  generalize hw : windowOf 12 (encode (modeInstr ext e.mode) ++ rest) = w
  obtain ⟨hcode, hinstr⟩ := window_of_mode he ext rest hw.symm
  have hne : w ≠ 1 := by
    rintro rfl
    have h1D : e.mode = .extension1D := modeTable_code_zero e he (hcode.symm.trans (Nat.zero_shiftRight _))
    rw [← hinstr, h1D] at hwf
    exact absurd hwf (by decide)
  have hlookup : modeLookup (w >>> 5) = some e :=
    find?_of_prefixFree modeTable_prefixFree (fun e he => (modeTable_lengths e he).1) he hcode
  rw [decodeModeWindow, if_neg hne, hlookup, ← hinstr]

/-! ### The words, one by one (spec/30_encoding.md R91) -/

/-- A word by where it stands: in a table of the decoder, or by itself. -/
inductive WordKind : Instr → Prop
  | run (c : Colour) (e : RunEntry) (he : e ∈ runTable c) : WordKind e.instr
  | mode (ext : BitVec 5) (e : ModeEntry) (he : e ∈ modeTable) : WordKind (modeInstr ext e.mode)
  | eolAtMode : WordKind .eolAtMode
  | leol (zeros : Nat) : WordKind (.leol zeros)
  | tag1 : WordKind .tag1
  | tag0 : WordKind .tag0
  | command (mode : BitVec 2) : WordKind (commandInstr (commandOf mode))

theorem modeTable_covers (mode : Mode) : ∃ e ∈ modeTable, e.mode = mode := by
  cases mode <;> decide

theorem wordKind_modeInstr (ext : BitVec 5) (mode : Mode) : WordKind (modeInstr ext mode) := by
  obtain ⟨e, he, rfl⟩ := modeTable_covers mode
  exact .mode ext e he

theorem wordKind_of_mem (h : i ∈ (whiteTable ++ blackTable).map RunEntry.instr) : WordKind i := by
  obtain ⟨e, he, rfl⟩ := List.mem_map.mp h
  obtain he | he := List.mem_append.mp he
  · exact .run .white e he
  · exact .run .black e he

/-- Every term of `Instr` is one of these: the remaining constructors are the words of the run-length tables. -/
theorem wordKind (i : Instr) : WordKind i := by
  cases i with
  | eolAtMode => exact .eolAtMode
  | p => exact wordKind_modeInstr 0 .pass
  | h => exact wordKind_modeInstr 0 .horizontal
  | v0 => exact wordKind_modeInstr 0 .vertical0
  | vr1 => exact wordKind_modeInstr 0 .verticalR1
  | vr2 => exact wordKind_modeInstr 0 .verticalR2
  | vr3 => exact wordKind_modeInstr 0 .verticalR3
  | vl1 => exact wordKind_modeInstr 0 .verticalL1
  | vl2 => exact wordKind_modeInstr 0 .verticalL2
  | vl3 => exact wordKind_modeInstr 0 .verticalL3
  | x2d ext => exact wordKind_modeInstr ext .extension2D
  | x1d ext => exact wordKind_modeInstr ext .extension1D
  | leol zeros => exact .leol zeros
  | tag1 => exact .tag1
  | tag0 => exact .tag0
  | decodeG31d => exact .command 0
  | decodeG32d => exact .command 1
  | decodeG4 => exact .command 2
  | cmdReserved => exact .command 3
  | _ => exact wordKind_of_mem (by decide)

/-! ### Decoding what was encoded -/

/-- A leading EOL ends with its first one (spec/47_line_orchestrators.md R464). -/
theorem decodeLeadingEol_of_encode {zeros : Nat} (h : 11 ≤ zeros) (rest : List Bool) :
    decodeLeadingEol (encode (.leol zeros) ++ rest) = .ok (.leol zeros) := by
  have hzeros : (encode (.leol zeros) ++ rest).takeWhile (fun b => !b) = List.replicate zeros false := by
    rw [encode, List.append_assoc, List.takeWhile_append_of_pos (by simp), List.singleton_append,
      List.takeWhile_cons_of_neg (by simp), List.append_nil]
  have hinside : zeros < (encode (.leol zeros) ++ rest).length := by simp [encode]
  rw [decodeLeadingEol, hzeros, List.length_replicate, if_pos ⟨hinside, h⟩]

theorem decode_command_of_encode (mode : BitVec 2) (rest : List Bool) :
    decode .command (encode (commandInstr (commandOf mode)) ++ rest) = .ok (commandInstr (commandOf mode)) := by
  obtain ⟨-, -, henc⟩ := commandInstr_encode mode
  rw [decode, henc, windowOf_append_of_length (codeBits_length 2 _), bitsToNat_codeBits mode.isLt, BitVec.ofNat_toNat,
    BitVec.setWidth_eq]

/-- Settles O14: each word in its own table or by its own rule. -/
theorem decodeOfEncode : Obligations.DecodeOfEncode := by
  intro i rest hwf
  cases wordKind i with
  | run c e he =>
    rw [(runTable_encode c e he).1]
    cases c with
    | white => exact decodeRunWindow_of_encode he rest
    | black => exact decodeRunWindow_of_encode he rest
  | mode ext e he =>
    rw [modeInstr_space]
    exact decodeModeWindow_of_encode he hwf rest
  | eolAtMode => exact congrArg decodeModeWindow (windowOf_append_of_length (n := 12) rfl rest)
  | leol zeros => exact decodeLeadingEol_of_encode (of_decide_eq_true hwf) rest
  | tag1 => exact congrArg (fun w => Except.ok (decodeTag w)) (windowOf_append_of_length (n := 1) rfl rest)
  | tag0 => exact congrArg (fun w => Except.ok (decodeTag w)) (windowOf_append_of_length (n := 1) rfl rest)
  | command mode =>
    rw [(commandInstr_encode mode).1]
    exact decode_command_of_encode mode rest

/-! ### What the lookups miss (spec/30_encoding.md R97, R99) -/

/-- Every 7-bit window begins with a mode code. -/
theorem modeLookup_isSome : ∀ w < 128, (modeLookup w).isSome = true := by
  decide

/-- Settles O18: the first seven bits of the window find an entry. -/
theorem modeLookupNeverMisses : Obligations.ModeLookupNeverMisses := by
  intro bits h
  have hw : windowOf 12 bits >>> 5 < 128 := by
    rw [Nat.shiftRight_eq_div_pow]
    exact Nat.div_lt_of_lt_mul (windowOf_lt 12 bits)
  obtain ⟨e, he⟩ := Option.isSome_iff_exists.mp (modeLookup_isSome _ hw)
  rw [decode, decodeModeWindow, he] at h
  split at h <;> cases h

/-- From `lo` on the windows of the entries follow one another without a gap up to `65536`: each step looks up an entry and goes on
behind the last window that its code begins. -/
def tilesFrom (table : List RunEntry) : Nat → Nat → Bool
  | 0, lo => decide (65536 ≤ lo)
  | fuel + 1, lo =>
    match runLookup table lo with
    | some e => tilesFrom table fuel ((e.code + 1) <<< (16 - e.bitsRequired))
    | none => false

theorem tilesFrom_isSome {table : List RunEntry} {fuel lo : Nat} (h : tilesFrom table fuel lo = true) (hlo : lo ≤ w)
    (hw : w < 65536) : (runLookup table w).isSome = true := by
  induction fuel generalizing lo with
  | zero => exact absurd (of_decide_eq_true h) (by omega)
  | succ fuel ih =>
    rw [tilesFrom] at h
    split at h
    · rename_i e he
      by_cases hnext : (e.code + 1) <<< (16 - e.bitsRequired) ≤ w
      · exact ih h hnext
      · have hlow : e.code = lo >>> (16 - e.bitsRequired) := (beq_iff_eq.mp (List.find?_some he :)).symm
        refine List.find?_isSome.mpr ⟨e, List.mem_of_find?_eq_some he, beq_iff_eq.mpr ?_⟩
        simp only [Nat.shiftRight_eq_div_pow, Nat.shiftLeft_eq, not_le] at hlow hnext ⊢
        have hge := Nat.div_le_div_right (c := 2 ^ (16 - e.bitsRequired)) hlo
        have hlt := Nat.div_lt_of_lt_mul (Nat.mul_comm _ _ ▸ hnext)
        omega
    · cases h

/-- All codes but the EOL's leave no gap above the windows of eight zeros. -/
theorem runTable_tiles (c : Colour) : tilesFrom (runTable c) 104 256 = true := by
  cases c <;> decide +kernel

/-- A code of eight zeros is the EOL's. -/
theorem runTable_code_ge (c : Colour) : ∀ e ∈ runTable c,
    (e.bitsRequired = 12 ∧ e.code = 1) ∨ 256 ≤ e.code <<< (16 - e.bitsRequired) := by
  cases c <;> decide

theorem runTable_eol (c : Colour) : ∃ e ∈ runTable c, e.bitsRequired = 12 ∧ e.code = 1 := by
  cases c <;> decide

theorem runLookup_eq_none_of_zeros (hlow : w < 256) (hne : w >>> 4 ≠ 1) : runLookup (runTable c) w = none := by
  refine List.find?_eq_none.mpr fun e he hw => ?_
  have hw : w >>> (16 - e.bitsRequired) = e.code := beq_iff_eq.mp hw
  obtain ⟨h12, h1⟩ | hge := runTable_code_ge c e he
  · exact hne (by rwa [h12, h1] at hw)
  · rw [← hw, Nat.shiftRight_eq_div_pow, Nat.shiftLeft_eq] at hge
    have hle := Nat.div_mul_le_self w (2 ^ (16 - e.bitsRequired))
    omega

theorem runLookup_ne_none_of_eol (hw : w >>> 4 = 1) : runLookup (runTable c) w ≠ none := by
  obtain ⟨e, he, h12, h1⟩ := runTable_eol c
  intro hnone
  exact List.find?_eq_none.mp hnone e he (beq_iff_eq.mpr (by rw [h12, h1, hw]))

/-- Settles O17: the codes leave a gap at the windows of eight zeros, where only the EOL's code stands. -/
theorem runLookupMissWindows : Obligations.RunLookupMissWindows := by
  intro c w hw
  constructor
  · intro hnone
    refine ⟨Nat.lt_of_not_le fun hge => ?_, fun heol => runLookup_ne_none_of_eol heol hnone⟩
    have hsome := tilesFrom_isSome (runTable_tiles c) hge hw
    rw [hnone] at hsome
    cases hsome
  · exact fun ⟨hlow, hne⟩ => runLookup_eq_none_of_zeros hlow hne

/-! ### The fetch -/

theorem peekBits_length (s : State) (n : Nat) : (s.peekBits n).length = n := by
  rw [State.peekBits, List.length_map, List.length_range]

/-- More bits at the cursor begin with the fewer. -/
theorem peekBits_prefix (h : m ≤ n) (s : State) : s.peekBits m <+: s.peekBits n := by
  obtain ⟨k, rfl⟩ := Nat.exists_eq_add_of_le h
  rw [State.peekBits, State.peekBits, List.range_add, List.map_append]
  exact List.prefix_append _ _

/-- A leading EOL at the cursor lies inside the input, since its one does (spec/20_memory.md R62). -/
theorem leol_inside {zeros : Nat} (h : s.peekBits (encode (.leol zeros)).length = encode (.leol zeros)) :
    (encode (.leol zeros)).length ≤ 8 * s.inLen - s.bitpos := by
  have hlen : (encode (.leol zeros)).length = zeros + 1 := by simp [encode]
  rw [hlen, peekBits_succ, encode] at h
  have hone : s.streamBit (s.bitpos + zeros) = true := List.singleton_inj.mp (List.append_inj_right' h rfl)
  rw [hlen]
  by_contra hend
  rw [streamBit_past_end (by omega)] at hone
  cases hone

/-- The fetch hands the decoder the word that stands at the cursor, with bits after it. -/
theorem fetchBits_of_encode (hc : s.cmdStart = false) (hsp : s.codeSpace = i.space)
    (h : s.peekBits (encode i).length = encode i) : encode i <+: s.fetchBits := by
  have window {n : Nat} (hlen : (encode i).length ≤ n) (hfetch : s.fetchBits = s.peekBits n) : encode i <+: s.fetchBits := by
    have hpre := peekBits_prefix hlen s
    rwa [h, ← hfetch] at hpre
  cases wordKind i with
  | run c e he =>
    obtain ⟨hspace, -, henc⟩ := runTable_encode c e he
    rw [hspace] at hsp
    refine window (n := 16) (by rw [henc, codeBits_length]; exact runTable_length_le c e he) ?_
    cases c <;> rw [State.fetchBits, hsp] <;> rfl
  | mode ext e he =>
    obtain ⟨hlen, hext⟩ := modeTable_lengths e he
    rw [modeInstr_space] at hsp
    refine window (n := 12) ?_ (by rw [State.fetchBits, hsp])
    rw [modeTable_encode ext e he, List.length_append, codeBits_length, codeBits_length]
    omega
  | eolAtMode => exact window (n := 12) le_rfl (by rw [State.fetchBits, hsp]; rfl)
  | leol zeros => exact window (leol_inside h) (by rw [State.fetchBits, hsp]; rfl)
  | tag1 => exact window (n := 1) le_rfl (by rw [State.fetchBits, hsp]; rfl)
  | tag0 => exact window (n := 1) le_rfl (by rw [State.fetchBits, hsp]; rfl)
  | command mode =>
    rw [(commandInstr_encode mode).1] at hsp
    rw [(codeSpace_eq_command.mp hsp).2] at hc
    cases hc

/-- Settles O20: the fetch decodes the word that stands at the cursor. -/
theorem stepRunsWordAtCursor : Obligations.StepRunsWordAtCursor := by
  intro i s hwf hb hc hsp h
  obtain ⟨rest, hbits⟩ := fetchBits_of_encode hc hsp h
  have hfetch : s.fetch = .ok i := by
    rw [State.fetch, hsp, ← hbits]
    exact decodeOfEncode i rest hwf
  rw [step_eq_answer (awake_iff.mpr hb), hfetch, answer]

/-- Settles O19: a step is the engine's answer to the fetch. -/
theorem stepRunsFetchedWord : Obligations.StepRunsFetchedWord := by
  refine fun s => ⟨fun hw i hfetch => ?_, fun hw e hfetch => ?_, step_idle⟩
  · rw [step_eq_answer hw, hfetch, answer]
  · rw [step_eq_answer hw, hfetch, answer]

/-! ### A lookup miss (spec/41_run_length_codes.md R121) -/

theorem fetch_of_runSpace (h : s.codeSpace = runSpace c) : s.fetch = decodeRunWindow (runTable c) (s.peek 16) := by
  have hwindow : windowOf 16 (s.peekBits 16) = s.peek 16 := by
    rw [← List.append_nil (s.peekBits 16), windowOf_append_of_length (peekBits_length s 16), State.peek]
  cases c <;> rw [State.fetch, State.fetchBits, h] <;> simp only [runSpace, decode, hwindow]

theorem step_of_lookupMiss (hsp : s.codeSpace = runSpace c) (h : runLookup (runTable c) (s.peek 16) = none) :
    step s = runStop .rlLookupMiss s := by
  have hfetch : s.fetch = .error .runLookupMiss := by rw [fetch_of_runSpace hsp, decodeRunWindow, h]
  rw [step_eq_answer (awake_iff.mpr (codeSpace_eq_runSpace.mp hsp).1), hfetch, answer, noWord]

/-- Where a run that no terminating code ends is tolerated (spec/47_line_orchestrators.md R468). -/
theorem toleratesRunStop_iff_cfgMode :
    s.toleratesRunStop = true ↔ s.cfgMode = 0#2 ∧ s.pos = .run ∧ s.row + 1 = s.rows := by
  have hmode : ∀ m : BitVec 2, commandOf m = .g31d ↔ m = 0#2 := by decide
  rw [toleratesRunStop_iff, State.command, hmode]

theorem runStop_of_tolerated {code : FaultCode} (h : s.toleratesRunStop = true)
    (hcap : (s.row + 1) * s.cfgWidth ≤ s.outCap) :
    runStop code s = .next (s.filled s.row s.unpacked s.cfgWidth s.color).finish := by
  rw [runStop, if_pos h, padFinalRow1D, fill_of_fits (Nat.add_one_mul s.row s.cfgWidth ▸ hcap), andThen_next]

/-- Settles O38: the miss stops the run, which the last row of Group 3 1-D tolerates. -/
theorem lookupMissPadsOrFaults : Obligations.LookupMissPadsOrFaults := by
  intro c s hsp hmiss _
  rw [step_of_lookupMiss hsp hmiss]
  constructor
  · intro hm hp hlast hcap
    obtain rfl : s.color = c := by
      obtain ⟨-, -, ⟨-, hcol⟩ | ⟨hp', -⟩ | ⟨hp', -⟩⟩ := codeSpace_eq_runSpace.mp hsp
      · exact hcol
      · cases hp.symm.trans hp'
      · cases hp.symm.trans hp'
    rw [runStop_of_tolerated (toleratesRunStop_iff_cfgMode.mpr ⟨hm, hp, hlast⟩) hcap]
    rfl
  · intro h
    rw [runStop, if_neg (mt toleratesRunStop_iff_cfgMode.mp h)]

end Sys2Proof.Machine
end

section
/-! PROOFS. The run-length words (spec/41_run_length_codes.md R121): the next state of each kind of word, and the registers that it leaves
unchanged. `exec_terminating_of_run` and its companions give the operation of a word at each position, and `LoopFrame` says once what the
loop condition of a row leaves alone. -/

namespace Sys2Proof.Machine

variable {s t : State} {c : Colour} {e : RunEntry} {code : FaultCode}

/-! ### The operation of each kind of word -/

theorem exec_makeup (he : e ∈ runTable c) (hk : e.kind = .makeup) (hsp : s.codeSpace = runSpace c) :
    exec e.instr s = .next (s.addRun e.bitsRequired e.runLength) := by
  rw [runTable_meaning c e he, runWord_of_space hsp, hk]

theorem exec_endOfLine (he : e ∈ runTable c) (hk : e.kind = .endOfLine) (hsp : s.codeSpace = runSpace c) :
    exec e.instr s = runStop .unexpectedEol s := by
  rw [runTable_meaning c e he, runWord_of_space hsp, hk]

theorem exec_terminating (he : e ∈ runTable c) (hk : e.kind = .terminating) (hsp : s.codeSpace = runSpace c) :
    exec e.instr s = endRun (s.addRun e.bitsRequired e.runLength) := by
  rw [runTable_meaning c e he, runWord_of_space hsp, hk]

theorem endRun_of_run (h : s.pos = .run) : endRun s = endRun1D s := by
  simp only [endRun, h]

theorem endRun_of_hRun1 (h : s.pos = .hRun1) : endRun s = .next s.endHRun1 := by
  simp only [endRun, h]

theorem endRun_of_hRun2 (h : s.pos = .hRun2) : endRun s = endHRun2 s := by
  simp only [endRun, h]

theorem exec_terminating_of_hRun2 (he : e ∈ runTable c.opp) (hk : e.kind = .terminating) (hb : s.status = .busy)
    (hc : s.cmdStart = false) (hp : s.pos = .hRun2) (hcol : s.color = c) :
    exec e.instr s = endHRun2 (s.addRun e.bitsRequired e.runLength) := by
  have hsp : s.codeSpace = runSpace c.opp := codeSpace_eq_runSpace.mpr ⟨hb, hc, .inr (.inr ⟨hp, congrArg Colour.opp hcol⟩)⟩
  rw [exec_terminating he hk hsp, endRun_of_hRun2 (s := s.addRun e.bitsRequired e.runLength) hp]

/-! ### Makeup words and the runs of a row -/

/-- Settles O31: the word is one addition to the run. -/
theorem makeupWordAddsRun : Obligations.MakeupWordAddsRun :=
  fun _ _ _ he hk hsp => exec_makeup he hk hsp

/-- A fill of `n` pixels from `lo` on. -/
theorem filled_add (s : State) (row lo n : Nat) (c : Colour) :
    s.filled row lo (lo + n) c = { s with output := s.output.fill (row * s.cfgWidth + lo) (s.byteOf c) n } := by
  rw [State.filled, Nat.add_sub_cancel_left]

/-- A word of `run` more pixels that ends a run of a 1-D row fills it, in one update of the state before the word. -/
theorem addRun_afterRun1D (s : State) (n run : Nat) : (s.addRun n run).afterRun1D = { s with
    bitpos := s.bitpos + n
    runAcc := s.runAcc + run
    output := s.output.fill (s.row * s.cfgWidth + s.unpacked) (s.byteOf s.color) (s.runAcc + run)
    unpacked := s.unpacked + (s.runAcc + run)
    color := s.color.opp } := by
  rw [State.afterRun1D, filled_add]
  rfl

/-- Settles O32: the run fits, and the loop condition begins the next one. -/
theorem terminatingWordContinuesRow : Obligations.TerminatingWordContinuesRow := by
  intro c e s he hk hb hc hp hcol hlt hcap
  subst hcol
  let r := s.addRun e.bitsRequired e.runLength
  rw [exec_terminating_of_run he hk hb hc hp rfl, endRun1D_of_fits (s := r) hlt.le hcap,
    addRun_afterRun1D, loop1D_of_room hlt, State.enterRun, ← hp]

/-- Settles O35: the run moves to `H_RUN1`, and the position of the second run reads the other table. -/
theorem firstHorizontalRunIsHeld : Obligations.FirstHorizontalRunIsHeld := by
  intro c e s he hk hb hc hp hcol
  have hsp : s.codeSpace = runSpace c := codeSpace_eq_runSpace.mpr ⟨hb, hc, .inr (.inl ⟨hp, hcol⟩)⟩
  let r := s.addRun e.bitsRequired e.runLength
  have hexec : exec e.instr s = .next r.endHRun1 := by
    rw [exec_terminating he hk hsp, endRun_of_hRun1 (s := r) hp]
  have hnext : r.endHRun1.codeSpace = runSpace c.opp :=
    codeSpace_eq_runSpace.mpr ⟨hb, hc, .inr (.inr ⟨rfl, congrArg Colour.opp hcol⟩)⟩
  exact ⟨r.endHRun1, hexec, hnext, rfl⟩

/-! ### What the loop condition of a row leaves alone (spec/45_one_dimensional.md R401, spec/46_two_dimensional.md R420) -/

/-- The registers that no run-length word writes. -/
def State.aside (s : State) : (ConfigValues × Nat × Memory) × Bool × Bool × Int × Int × Int :=
  (s.settings, s.cmdStart, s.eolSeen, s.b1, s.b2, s.a1)

/-- From `s` on to `t` only the cursor, the run sum and the position move, and at the end of the row `ROW` and `REF`. -/
structure LoopFrame (s t : State) : Prop where
  aside : t.aside = s.aside
  status : t.status = s.status
  faultCode : t.faultCode = s.faultCode
  bitposOut : t.bitposOut = s.bitposOut
  color : t.color = s.color
  unpacked : t.unpacked = s.unpacked
  a0 : t.a0 = s.a0
  hRun1 : t.hRun1 = s.hRun1
  output : t.output = s.output
  inRow : t.unpacked < s.cfgWidth → t.row = s.row ∧ t.ref = s.ref

theorem endRow_frame (h : s.cfgWidth ≤ s.unpacked) : LoopFrame s s.endRow := by
  obtain ⟨b, -, hend⟩ := endRow_eq s
  rw [hend]
  exact ⟨rfl, rfl, rfl, rfl, rfl, rfl, rfl, rfl, rfl, fun hlt => absurd hlt (Nat.not_lt.mpr h)⟩

theorem loop1D_frame (s : State) : LoopFrame s s.loop1D := by
  obtain ⟨-, hl⟩ | ⟨hfull, hl⟩ := loop1D_cases s <;> rw [hl]
  · exact ⟨rfl, rfl, rfl, rfl, rfl, rfl, rfl, rfl, rfl, fun _ => ⟨rfl, rfl⟩⟩
  · exact endRow_frame hfull

theorem loop2D_frame (s : State) : LoopFrame s s.loop2D := by
  obtain ⟨-, hl⟩ | ⟨hfull, hl⟩ := loop2D_cases s <;> rw [hl]
  · exact ⟨rfl, rfl, rfl, rfl, rfl, rfl, rfl, rfl, rfl, fun _ => ⟨rfl, rfl⟩⟩
  · exact endRow_frame hfull

/-! ### The second run of a Horizontal mode (spec/46_two_dimensional.md R423) -/

theorem endHRun2_of_overshoot (h : s.cfgWidth < s.unpacked + s.hRun1 + s.runAcc) :
    endHRun2 s = .next (s.abort .overshoot) := if_pos h

theorem endHRun2_of_fits (hle : s.unpacked + s.hRun1 + s.runAcc ≤ s.cfgWidth)
    (hcap : (s.row + 1) * s.cfgWidth ≤ s.outCap) : endHRun2 s = .next s.afterRuns2D.loop2D := by
  have hfit {hi : Nat} (hhi : hi ≤ s.cfgWidth) : s.row * s.cfgWidth + hi ≤ s.outCap := by
    rw [Nat.add_one_mul] at hcap
    omega
  rw [endHRun2, if_neg (by omega), fill_of_fits (hfit (by omega)), andThen_next, fill_of_fits, andThen_next]
  · rfl
  · exact hfit hle

/-- A second run of `run` more pixels fills both runs, in one update of the state before its word. -/
theorem addRun_afterRuns2D (s : State) (n run : Nat) : (s.addRun n run).afterRuns2D = { s with
    bitpos := s.bitpos + n
    runAcc := s.runAcc + run
    output := (s.output.fill (s.row * s.cfgWidth + s.unpacked) (s.byteOf s.color) s.hRun1).fill
      (s.row * s.cfgWidth + (s.unpacked + s.hRun1)) (s.byteOf s.color.opp) (s.runAcc + run)
    unpacked := s.unpacked + s.hRun1 + (s.runAcc + run)
    a0 := ((s.unpacked + s.hRun1 + (s.runAcc + run) : Nat) : Int) } := by
  rw [State.afterRuns2D, filled_add, filled_add]
  rfl

theorem command_eq_g31d_iff : s.command = .g31d ↔ s.cfgMode = 0#2 := by
  have hmode : ∀ m : BitVec 2, commandOf m = .g31d ↔ m = 0#2 := by decide
  exact hmode s.cfgMode

/-- The end of a row that does not align (spec/47_line_orchestrators.md R466). -/
theorem endRow_of_unaligned (h : s.command = .g31d → s.eolSeen = true) :
    s.endRow = { s with ref := .row s.row, row := s.row + 1, pos := .rowStart } := by
  obtain ⟨hc, he, -⟩ | ⟨-, hend⟩ := endRow_cases s
  · rw [h hc] at he
    cases he
  · exact hend

/-- Settles O36: both runs are filled, and the loop condition reads on or ends the row. -/
theorem secondHorizontalRunFills : Obligations.SecondHorizontalRunFills := by
  intro c e s he hk hb hc hp hcol hcap
  subst hcol
  rw [exec_terminating_of_hRun2 he hk hb hc hp rfl]
  let r := s.addRun e.bitsRequired e.runLength
  refine ⟨endHRun2_of_overshoot (s := r), fun hle => ?_⟩
  have hnext := endHRun2_of_fits (s := r) hle hcap
  rw [addRun_afterRuns2D] at hnext
  refine ⟨_, hnext, (loop2D_frame _).status.trans hb, (loop2D_frame _).unpacked, ?_, (loop2D_frame _).color,
    (loop2D_frame _).output, ?_, ?_⟩
  · rw [(loop2D_frame _).a0, (loop2D_frame _).unpacked]
  · intro hlt
    rw [(loop2D_frame _).unpacked] at hlt
    rw [loop2D_of_room hlt]
    exact ⟨rfl, rfl, rfl, rfl⟩
  · intro hfull hm
    rw [(loop2D_frame _).unpacked] at hfull
    rw [loop2D_of_full hfull.ge, endRow_of_unaligned]
    · exact ⟨rfl, rfl, rfl, rfl⟩
    · exact fun hg => absurd (command_eq_g31d_iff.mp hg) hm

/-! ### The EOL word (spec/47_line_orchestrators.md R467, R468) -/

/-- At a run position of a 1-D row the table is that of `COLOR`. -/
theorem color_of_runSpace (h : s.codeSpace = runSpace c) (hp : s.pos = .run) : s.color = c := by
  obtain ⟨-, -, ⟨-, hcol⟩ | ⟨hp', -⟩ | ⟨hp', -⟩⟩ := codeSpace_eq_runSpace.mp h
  · exact hcol
  · cases hp.symm.trans hp'
  · cases hp.symm.trans hp'

theorem runStop_of_not_tolerated (h : ¬ (s.cfgMode = 0#2 ∧ s.pos = .run ∧ s.row + 1 = s.rows)) :
    runStop code s = .next (s.abort code) := if_neg (mt toleratesRunStop_iff_cfgMode.mp h)

/-- Settles O37: the EOL stops the run, which the last row of Group 3 1-D tolerates. -/
theorem eolWordPadsOrFaults : Obligations.EolWordPadsOrFaults := by
  intro c e s he hk hsp
  rw [exec_endOfLine he hk hsp]
  refine ⟨fun hm hp hlast hcap => ?_, runStop_of_not_tolerated⟩
  obtain rfl := color_of_runSpace hsp hp
  rw [runStop_of_tolerated (toleratesRunStop_iff_cfgMode.mpr ⟨hm, hp, hlast⟩) hcap]
  rfl

/-! ### The register frame -/

/-- A finished run of a 1-D row that does not overshoot. -/
theorem endRun1D_frame (h : endRun1D s = .next t) (hf : t.status ≠ .fault) : LoopFrame s.afterRun1D t := by
  obtain ⟨-, rfl⟩ | ⟨-, rfl⟩ := endRun1D_cases h
  · exact absurd rfl hf
  · exact loop1D_frame s.afterRun1D

/-- A Horizontal mode that does not overshoot. -/
theorem endHRun2_frame (h : endHRun2 s = .next t) (hf : t.status ≠ .fault) : LoopFrame s.afterRuns2D t := by
  obtain ⟨-, rfl⟩ | ⟨-, rfl⟩ := endHRun2_cases h
  · exact absurd rfl hf
  · exact loop2D_frame s.afterRuns2D

/-- What a run-length word of kind `k` leaves unchanged in `s`, the state `t` being next. -/
structure RunWordFrame (k : RunKind) (s t : State) : Prop where
  aside : t.aside = s.aside
  report : k ≠ .endOfLine → t.status = s.status ∧ t.faultCode = s.faultCode ∧ t.bitposOut = s.bitposOut
  place : k ≠ .terminating → t.row = s.row ∧ t.ref = s.ref ∧ t.pos = s.pos ∧ t.color = s.color ∧ t.unpacked = s.unpacked
  inRow : t.unpacked < s.cfgWidth → t.row = s.row ∧ t.ref = s.ref
  color : s.pos ≠ .run → t.color = s.color
  unpacked : s.pos = .hRun1 → t.unpacked = s.unpacked
  a0 : s.pos ≠ .hRun2 → t.a0 = s.a0
  hRun1 : s.pos ≠ .hRun1 → t.hRun1 = s.hRun1

theorem addRun_frame (s : State) (n run : Nat) : RunWordFrame .makeup s (s.addRun n run) :=
  ⟨rfl, fun _ => ⟨rfl, rfl, rfl⟩, fun _ => ⟨rfl, rfl, rfl, rfl, rfl⟩, fun _ => ⟨rfl, rfl⟩, fun _ => rfl, fun _ => rfl,
    fun _ => rfl, fun _ => rfl⟩

theorem runStop_frame (h : runStop code s = .next t) (hf : t.status ≠ .fault) : RunWordFrame .endOfLine s t := by
  obtain ⟨-, rfl⟩ | ⟨-, rfl⟩ := runStop_cases h
  · exact absurd rfl hf
  · exact ⟨rfl, fun hk => absurd rfl hk, fun _ => ⟨rfl, rfl, rfl, rfl, rfl⟩, fun _ => ⟨rfl, rfl⟩, fun _ => rfl, fun _ => rfl,
      fun _ => rfl, fun _ => rfl⟩

/-- A terminating word, by the run that it ends. -/
theorem endRun_frame {n run : Nat} (hp : s.pos = .run ∨ s.pos = .hRun1 ∨ s.pos = .hRun2)
    (h : endRun (s.addRun n run) = .next t) (hf : t.status ≠ .fault) : RunWordFrame .terminating s t := by
  obtain hp | hp | hp := hp
  · rw [endRun_of_run (s := s.addRun n run) hp] at h
    have hl := endRun1D_frame h hf
    rw [addRun_afterRun1D] at hl
    exact ⟨hl.aside, fun _ => ⟨hl.status, hl.faultCode, hl.bitposOut⟩, fun hk => absurd rfl hk, hl.inRow,
      fun hne => absurd hp hne, fun hp' => (nomatch hp.symm.trans hp'), fun _ => hl.a0, fun _ => hl.hRun1⟩
  · rw [endRun_of_hRun1 (s := s.addRun n run) hp] at h
    cases h
    exact ⟨rfl, fun _ => ⟨rfl, rfl, rfl⟩, fun hk => absurd rfl hk, fun _ => ⟨rfl, rfl⟩, fun _ => rfl, fun _ => rfl,
      fun _ => rfl, fun hne => absurd hp hne⟩
  · rw [endRun_of_hRun2 (s := s.addRun n run) hp] at h
    have hl := endHRun2_frame h hf
    rw [addRun_afterRuns2D] at hl
    exact ⟨hl.aside, fun _ => ⟨hl.status, hl.faultCode, hl.bitposOut⟩, fun hk => absurd rfl hk, hl.inRow,
      fun _ => hl.color, fun hp' => (nomatch hp.symm.trans hp'), fun hne => absurd hp hne, fun _ => hl.hRun1⟩

theorem runWord_frame {n run : Nat} {k : RunKind} (h : runWord c n run k s = .next t) (hf : t.status ≠ .fault) :
    RunWordFrame k s t := by
  obtain ⟨hsp, ⟨hk, ht⟩ | ⟨hk, hend⟩ | ⟨hk, hstop⟩⟩ := runWord_cases h
  · rw [hk, ht]
    exact addRun_frame s n run
  · rw [hk]
    exact endRun_frame (pos_of_runSpace hsp) hend hf
  · rw [hk]
    exact runStop_frame hstop hf

/-- Settles O56: the frame of the word's kind, the registers set aside one by one. -/
theorem runWordRegisterFrame : Obligations.RunWordRegisterFrame := by
  intro c e s t he h hf
  rw [runTable_meaning c e he] at h
  have hframe := runWord_frame h hf
  have haside := hframe.aside
  simp only [State.aside, State.settings, hostReadConfig, Prod.mk.injEq, ConfigValues.mk.injEq] at haside
  obtain ⟨⟨⟨hmode, hlsb, hphot, hbps, hwidth, hskip, hreq, hcap⟩, hlen, hin⟩, hstart, heol, hb1, hb2, ha1⟩ := haside
  exact ⟨hmode, hlsb, hphot, hbps, hwidth, hskip, hreq, hlen, hcap, hstart, hin, heol, hb1, hb2, ha1, hframe.report,
    hframe.place, hframe.inRow, hframe.color, hframe.unpacked, hframe.a0, hframe.hRun1⟩

end Sys2Proof.Machine
end

section
/-! PROOFS. The words spelled out, and the start of a Group 3 row: a leading EOL or none, and the tag. -/

namespace Sys2Proof.Machine

variable {s : State} {i : Instr}

/-! ### Words spelled out -/

theorem decode_encode (h : i.wf = true) : decode i.space (encode i) = .ok i := by
  have hdecode := decodeOfEncode i [] h
  rwa [List.append_nil] at hdecode

/-- Settles O16: each list of bits is the encoding of its word. -/
theorem spelledOutWords : Obligations.SpelledOutWords :=
  ⟨decode_encode (i := .w1) rfl, decode_encode (i := .wm64) rfl, decode_encode (i := .b0) rfl, decode_encode (i := .v0) rfl,
    decode_encode (i := .p) rfl, decode_encode (i := .eolAtMode) rfl, decode_encode (i := .leol 15) rfl,
    decode_encode (i := .tag1) rfl, decode_encode (i := .tag0) rfl, decode_encode (i := .decodeG31d) rfl,
    decode_encode (i := .decodeG32d) rfl, decode_encode (i := .decodeG4) rfl, decode_encode (i := .cmdReserved) rfl⟩

/-! ### The start of a row (spec/45_one_dimensional.md R401, spec/46_two_dimensional.md R420) -/

/-- The end of a Group 3 1-D row whose leading EOL was not consumed (spec/47_line_orchestrators.md R466). -/
theorem endRow_of_aligned (hm : s.cfgMode = 0#2) (he : s.eolSeen = false) :
    s.endRow = { s with
      bitpos := 8 * ((s.bitpos + 7) / 8), ref := .row s.row, row := s.row + 1, pos := .rowStart } := by
  obtain ⟨-, -, hend⟩ | ⟨hseen, -⟩ := endRow_cases s
  · exact hend
  · rw [hseen (command_eq_g31d_iff.mpr hm)] at he
    cases he

theorem beginLine1D_of_room (h : 0 < s.cfgWidth) :
    s.beginLine1D = { s with unpacked := 0, color := .white, runAcc := 0, pos := .run } := if_pos h

theorem beginLine2D_of_room (h : 0 < s.cfgWidth) :
    s.beginLine2D = { s with a0 := -1, unpacked := 0, color := .white, pos := .mode } := if_pos h

/-! ### A row of `WIDTH = 0` ends where it begins (spec/47_line_orchestrators.md R475) -/

theorem beginLine1D_of_empty_aligned (hw : s.cfgWidth = 0) (hm : s.cfgMode = 0#2) (he : s.eolSeen = false) :
    s.beginLine1D = { s with
      bitpos := 8 * ((s.bitpos + 7) / 8), unpacked := 0, color := .white,
      ref := .row s.row, row := s.row + 1, pos := .rowStart } :=
  (loop1D_of_full (s := { s with unpacked := 0, color := .white }) hw.le).trans (endRow_of_aligned hm he)

theorem beginLine1D_of_empty (hw : s.cfgWidth = 0) (h : s.command = .g31d → s.eolSeen = true) :
    s.beginLine1D = { s with
      unpacked := 0, color := .white, ref := .row s.row, row := s.row + 1, pos := .rowStart } :=
  (loop1D_of_full (s := { s with unpacked := 0, color := .white }) hw.le).trans (endRow_of_unaligned h)

theorem beginLine2D_of_empty (hw : s.cfgWidth = 0) (h : s.command = .g31d → s.eolSeen = true) :
    s.beginLine2D = { s with
      a0 := -1, unpacked := 0, color := .white, ref := .row s.row, row := s.row + 1, pos := .rowStart } :=
  (loop2D_of_full (s := { s with a0 := -1, unpacked := 0, color := .white }) hw.le).trans (endRow_of_unaligned h)

theorem command_ne_g31d (h : s.cfgMode = 1#2) : s.command ≠ .g31d := by
  rw [command_of_mode h]
  decide

/-! ### The leading EOL (spec/47_line_orchestrators.md R465, R469) -/

theorem exec_leol (z : Nat) (s : State) : exec (.leol z) s = execLeol z s := rfl

theorem exec_leol_g31d (hsp : s.codeSpace = .rowStart) (hm : s.cfgMode = 0#2) (z : Nat) :
    exec (.leol z) s = .next { s.advance (z + 1) with eolSeen := true }.beginLine1D := by
  rw [exec_leol, execLeol, if_pos hsp, State.afterLeadingEol, State.advance_command, command_of_mode hm]
  rfl

theorem exec_leol_g32d (hsp : s.codeSpace = .rowStart) (hm : s.cfgMode = 1#2) (z : Nat) :
    exec (.leol z) s = .next { s.advance (z + 1) with pos := .tag } := by
  rw [exec_leol, execLeol, if_pos hsp, State.afterLeadingEol, State.advance_command, command_of_mode hm]
  rfl

/-- Settles O47: the row begins behind the EOL, or ends at once without an alignment; in 2-D the tag follows. -/
theorem leadingEolIsConsumed : Obligations.LeadingEolIsConsumed := by
  intro z s hsp
  let u := { s.advance (z + 1) with eolSeen := true }
  refine ⟨fun hm hw => ?_, fun hm hw => ?_, fun hm => exec_leol_g32d hsp hm z⟩
  · rw [exec_leol_g31d hsp hm, beginLine1D_of_room (s := u) hw]
    rfl
  · rw [exec_leol_g31d hsp hm, beginLine1D_of_empty (s := u) hw fun _ => rfl]
    rfl

theorem step_of_noLeadingEol (hsp : s.codeSpace = .rowStart) (h : s.fetch = .error .noLeadingEol) :
    step s = rowWithoutEol s := by
  rw [step_eq_answer (awake_iff.mpr (codeSpace_eq_rowStart.mp hsp).1), h, answer, noWord]

theorem rowWithoutEol_g31d (hm : s.cfgMode = 0#2) : rowWithoutEol s = .next { s with eolSeen := false }.beginLine1D := by
  rw [rowWithoutEol, command_of_mode hm]
  rfl

theorem rowWithoutEol_g32d (hm : s.cfgMode = 1#2) : rowWithoutEol s = .next (s.abort .missingEol) := by
  rw [rowWithoutEol, command_of_mode hm]
  rfl

/-- Settles O48: the row begins at the cursor, or ends at once with its alignment; in 2-D the EOL is required. -/
theorem rowWithoutLeadingEol : Obligations.RowWithoutLeadingEol := by
  intro s hsp _ hfetch
  rw [step_of_noLeadingEol hsp hfetch]
  let u := { s with eolSeen := false }
  refine ⟨fun hm hw => ?_, fun hm hw => ?_, rowWithoutEol_g32d⟩
  · rw [rowWithoutEol_g31d hm, beginLine1D_of_room (s := u) hw]
  · rw [rowWithoutEol_g31d hm, beginLine1D_of_empty_aligned (s := u) hw hm rfl]

/-! ### The tag (spec/47_line_orchestrators.md R470, R471) -/

theorem exec_tag1 (hsp : s.codeSpace = .tag) : exec .tag1 s = .next (s.advance 1).beginLine1D := if_pos hsp

theorem exec_tag0 (s : State) : exec .tag0 s = execTag0 s := rfl

theorem exec_tag0_of_none (hsp : s.codeSpace = .tag) (hr : s.ref = .none) :
    exec .tag0 s = .next (s.abort .missingReference) := by
  rw [exec_tag0, execTag0, if_pos hsp, if_pos hr]

theorem exec_tag0_of_reference (hsp : s.codeSpace = .tag) (hr : s.ref ≠ .none) :
    exec .tag0 s = .next (s.advance 1).beginLine2D := by
  rw [exec_tag0, execTag0, if_pos hsp, if_neg hr]

/-- Settles O49: each tag begins its kind of row, which a Group 3 2-D command does not align. -/
theorem tagSelectsRow : Obligations.TagSelectsRow := by
  intro s hb hc hp hm
  have hsp : s.codeSpace = .tag := codeSpace_eq_tag.mpr ⟨hb, hc, hp⟩
  have hne : s.command ≠ .g31d := command_ne_g31d hm
  let u := s.advance 1
  refine ⟨fun hw => ?_, fun hw => ?_, exec_tag0_of_none hsp, fun hr hw => ?_, fun hr hw => ?_⟩
  · rw [exec_tag1 hsp, beginLine1D_of_room (s := u) hw]
    rfl
  · rw [exec_tag1 hsp, beginLine1D_of_empty (s := u) hw fun hg => absurd hg hne]
    rfl
  · rw [exec_tag0_of_reference hsp hr, beginLine2D_of_room (s := u) hw]
    rfl
  · rw [exec_tag0_of_reference hsp hr, beginLine2D_of_empty (s := u) hw fun hg => absurd hg hne]
    rfl

end Sys2Proof.Machine
end

section
/-! PROOFS. The mode words (spec/43_mode_codes.md, spec/46_two_dimensional.md): the operation of each kind of mode at a mode position, and
the next state of a mode whose pixels fit into the row. -/

namespace Sys2Proof.Machine

variable {s : State} {i : Instr} {n : Nat} {d : Int}

/-! ### The operation of each kind of word -/

/-- The Vertical modes with their code lengths and deltas (R351, R354 to R359). -/
def verticalModes : List (Instr × Nat × Int) :=
  [(.v0, 1, 0), (.vr1, 3, 1), (.vr2, 6, 2), (.vr3, 7, 3), (.vl1, 3, -1), (.vl2, 6, -2), (.vl3, 7, -3)]

theorem verticalModes_meaning : ∀ e ∈ verticalModes, exec e.1 = modeWord e.2.1 (vertical e.2.2) := by
  simp only [verticalModes, List.forall_mem_cons]
  exact ⟨rfl, rfl, rfl, rfl, rfl, rfl, rfl, List.forall_mem_nil _⟩

theorem exec_vertical (h : (i, n, d) ∈ verticalModes) (hsp : s.codeSpace = .mode) (hr : s.refProblem = none) :
    exec i s = vertical d (s.searched n) := by
  rw [verticalModes_meaning _ h, modeWord_of_space hsp hr, State.searched]

theorem exec_p (hsp : s.codeSpace = .mode) (hr : s.refProblem = none) : exec .p s = pass (s.searched 4) :=
  modeWord_of_space hsp hr

theorem exec_h (hsp : s.codeSpace = .mode) (hr : s.refProblem = none) :
    exec .h s = .next ((s.searched 3).enterRun .hRun1) :=
  modeWord_of_space hsp hr

theorem extension_of_space (hsp : s.codeSpace = .mode) : extension s = .next (s.abort .unsupportedExtension) := if_pos hsp

/-! ### Modes whose pixels fit into the row -/

/-- The bytes of a row exist up to any pixel of it (spec/20_memory.md R72). -/
theorem fill_of_row {hi : Nat} {c : Colour} (lo : Nat) (hhi : hi ≤ s.cfgWidth) (hcap : (s.row + 1) * s.cfgWidth ≤ s.outCap) :
    fill s.row lo hi c s = .next (s.filled s.row lo hi c) := by
  refine fill_of_fits ?_
  rw [Nat.add_one_mul] at hcap
  omega

theorem vertical_of_fits (hlo : (s.unpacked : Int) ≤ s.b1 + d) (hhi : s.b1 + d ≤ s.cfgWidth)
    (hcap : (s.row + 1) * s.cfgWidth ≤ s.outCap) : vertical d s = .next (s.afterVertical d).loop2D := by
  have hfill := fill_of_row (s := { s with a1 := s.b1 + d }) (hi := (s.b1 + d).toNat) (c := s.color) s.unpacked
    (Int.toNat_le.mpr hhi) hcap
  rw [vertical, if_neg (by omega), if_neg (by omega), hfill, andThen_next]
  rfl

theorem pass_of_fits (hcap : (s.row + 1) * s.cfgWidth ≤ s.outCap) : pass s = .next s.afterPass.loop2D := by
  have hfill := fill_of_row (s := { s with b2 := ((s.findB2 s.b1 : Nat) : Int) }) (c := s.color) s.unpacked
    (findB2_le_width s s.b1) hcap
  rw [pass, hfill, andThen_next]
  rfl

/-! ### The next state of each kind of word -/

/-- Settles O40: the target lies in the row, so its pixels are filled and the loop condition reads the next mode. -/
theorem verticalModeContinuesRow : Obligations.VerticalModeContinuesRow := by
  intro i n d s hmem hsp hr hcap hlo hhi
  let u := s.searched n
  have hroom : (u.afterVertical d).unpacked < s.cfgWidth := by
    change (u.b1 + d).toNat < s.cfgWidth
    exact (Int.toNat_lt (le_trans (Int.natCast_nonneg _) hlo)).mpr hhi
  rw [exec_vertical hmem hsp hr, vertical_of_fits (s := u) hlo hhi.le hcap, loop2D_of_room hroom, ← pos_of_modeSpace hsp]
  rfl

/-- Settles O42: `B2` never lies beyond the row, and the loop condition reads the next mode or ends the row, which a command with
mode positions does not align. -/
theorem passFillsToB2 : Obligations.PassFillsToB2 := by
  intro s hsp hr hm hcap b1 b2 u
  let v := (s.searched 4).afterPass
  have hexec : exec .p s = .next v.loop2D := by
    rw [exec_p hsp hr, pass_of_fits (s := s.searched 4) hcap]
  refine ⟨fun hlt => ?_, fun hfull => ?_⟩
  · rw [hexec, loop2D_of_room (s := v) hlt, ← pos_of_modeSpace hsp]
    rfl
  · have hne : s.command ≠ .g31d := fun hg => hm (command_eq_g31d_iff.mp hg)
    rw [hexec, loop2D_of_full (s := v) hfull.ge, endRow_of_unaligned (s := v) fun hg => absurd hg hne]
    rfl

/-- Settles O43: behind the mode stands the first run, which is read in the colour's own table. -/
theorem horizontalBeginsFirstRun : Obligations.HorizontalBeginsFirstRun := by
  intro s hsp hr
  obtain ⟨hb, hc, -⟩ := codeSpace_eq_mode.mp hsp
  exact ⟨_, exec_h hsp hr, codeSpace_eq_runSpace.mpr ⟨hb, hc, .inr (.inl ⟨rfl, rfl⟩)⟩, rfl⟩

/-- Settles O44: both escapes are the one operation that aborts. -/
theorem extensionFaults : Obligations.ExtensionFaults :=
  fun _ _ hsp => ⟨extension_of_space hsp, extension_of_space hsp⟩

end Sys2Proof.Machine
end

section
/-! PROOFS. The search in the reference row (spec/44_reference_scanline.md): each search answers the least position of the row that
qualifies, or `WIDTH`, and the order of the answers follows. -/

namespace Sys2Proof.Machine

variable {s : State} {r : Nat} {a0 b1 : Int} {c : Colour}

/-! ### The least position of a row -/

theorem find?_range_getD_isLeast {n : Nat} {p : Nat → Bool} {good : Nat → Prop} (hgood : ∀ i, good i ↔ i < n ∧ p i = true) :
    (good (((List.range n).find? p).getD n) ∨ (((List.range n).find? p).getD n = n ∧ ∀ i, ¬ good i)) ∧
      ∀ i, good i → ((List.range n).find? p).getD n ≤ i := by
  cases h : (List.range n).find? p with
  | none =>
    have hnone : ∀ i, ¬ good i := fun i hi => by
      obtain ⟨hlt, hp⟩ := (hgood i).mp hi
      exact List.find?_eq_none.mp h i (List.mem_range.mpr hlt) hp
    exact ⟨.inr ⟨rfl, hnone⟩, fun i hi => absurd hi (hnone i)⟩
  | some k =>
    obtain ⟨hp, hmem, hleast⟩ := List.find?_range_eq_some.mp h
    refine ⟨.inl ((hgood k).mpr ⟨List.mem_range.mp hmem, hp⟩), fun i hi => not_lt.mp fun hik => ?_⟩
    simpa [((hgood i).mp hi).2] using hleast i hik

/-! ### The searches on a real row (R381 to R383) -/

theorem changing_iff {i : Nat} : s.changing r i = true ↔
    (i = 0 ∧ s.refPixel r 0 ≠ s.byteOf .white) ∨ (1 ≤ i ∧ s.refPixel r i ≠ s.refPixel r (i - 1)) := by
  cases i <;> simp [State.changing]

/-- Settles O27: a position qualifies just when it lies in the row and meets the test of the search. -/
theorem findB1IsLeast : Obligations.FindB1IsLeast := by
  intro s r a0 c href good
  have hgood : ∀ i, good i ↔ i < s.cfgWidth ∧
      (decide (a0 < (i : Int)) && s.changing r i && decide (s.refPixel r i ≠ s.byteOf c)) = true := fun i => by
    simp only [good, Bool.and_eq_true, decide_eq_true_eq, changing_iff]
    tauto
  rw [State.findB1, href]
  exact find?_range_getD_isLeast hgood

/-- Settles O28: a position qualifies just when it lies in the row and meets the test of the search. -/
theorem findB2IsLeast : Obligations.FindB2IsLeast := by
  intro s r b1 href good
  have hgood : ∀ i, good i ↔ i < s.cfgWidth ∧ (decide (b1 < (i : Int)) && s.changing r i) = true := fun i => by
    simp only [good, Bool.and_eq_true, decide_eq_true_eq, changing_iff]
    tauto
  rw [State.findB2, href]
  exact find?_range_getD_isLeast hgood

/-! ### The imaginary row (R384, R385) -/

theorem findB1_imaginary (href : s.ref = .imaginary) : s.findB1 a0 c = s.cfgWidth := by
  rw [State.findB1, href]

theorem findB2_imaginary (href : s.ref = .imaginary) : s.findB2 b1 = s.cfgWidth := by
  rw [State.findB2, href]

/-- Settles O29: no position of the imaginary row is searched. -/
theorem imaginaryRowHasNoChange : Obligations.ImaginaryRowHasNoChange :=
  fun _ _ _ _ href => ⟨findB1_imaginary href, findB2_imaginary href⟩

/-! ### The order of the answers (R387) -/

theorem findB1_right_or_width (href : s.ref ≠ .none) :
    (a0 < (s.findB1 a0 c : Int) ∧ s.findB1 a0 c < s.cfgWidth) ∨ s.findB1 a0 c = s.cfgWidth := by
  cases hs : s.ref with
  | none => exact absurd hs href
  | imaginary => exact .inr (findB1_imaginary hs)
  | row r =>
    obtain ⟨⟨hright, hlt, -⟩ | ⟨hwidth, -⟩, -⟩ := findB1IsLeast s r a0 c hs
    · exact .inl ⟨hright, hlt⟩
    · exact .inr hwidth

theorem findB2_right_or_width (href : s.ref ≠ .none) :
    (b1 < (s.findB2 b1 : Int) ∧ s.findB2 b1 < s.cfgWidth) ∨ s.findB2 b1 = s.cfgWidth := by
  cases hs : s.ref with
  | none => exact absurd hs href
  | imaginary => exact .inr (findB2_imaginary hs)
  | row r =>
    obtain ⟨⟨hright, hlt, -⟩ | ⟨hwidth, -⟩, -⟩ := findB2IsLeast s r b1 hs
    · exact .inl ⟨hright, hlt⟩
    · exact .inr hwidth

/-- Settles O30: each answer lies right of where its search begins, or it is `WIDTH`. -/
theorem searchStaysInOrder : Obligations.SearchStaysInOrder := by
  intro s a0 b1 c href _ hb1
  have hfirst := findB1_right_or_width (a0 := a0) (c := c) href
  have hsecond := findB2_right_or_width (b1 := s.findB1 a0 c) href
  have hnext := findB2_right_or_width (b1 := b1) href
  exact ⟨by omega, hfirst.imp_left And.left, by omega, findB2_le_width s b1, by omega⟩

end Sys2Proof.Machine
end

section
/-! PROOFS. A run of a 1-D row that does not fit into the row (spec/45_one_dimensional.md R402): the other case of `endRun1D_of_fits`. -/

namespace Sys2Proof.Machine

variable {s : State}

theorem endRun1D_of_overshoot (h : s.cfgWidth < s.unpacked + s.runAcc) : endRun1D s = .next (s.abort .overshoot) := if_pos h

/-- What the word adds to the cursor and to the run is lost in an abort, which frees both registers (spec/60_exceptions.md R492). -/
theorem addRun_abort (s : State) (n run : Nat) (code : FaultCode) : (s.addRun n run).abort code = s.abort code := rfl

/-- Settles O34: the completed run ends past `WIDTH`, and the abort forgets the word that completed it. -/
theorem overshootingRunFaults : Obligations.OvershootingRunFaults := by
  intro c e s he hk hb hc hp hcol hover
  rw [exec_terminating_of_run he hk hb hc hp hcol, endRun1D_of_overshoot hover, addRun_abort]

end Sys2Proof.Machine
end

section
/-! PROOFS. The other outcomes of the mode words (spec/46_two_dimensional.md): a Vertical mode that faults or ends its row, the EOL that
ends the command, and what a mode word leaves unchanged, said once per kind of word by `ModeFrame`. -/

namespace Sys2Proof.Machine

variable {s t : State} {i : Instr} {n a : Nat} {d : Int}

/-! ### Vertical modes that fault or end the row (R424, spec/60_exceptions.md R494) -/

theorem vertical_of_overshoot (h : (s.cfgWidth : Int) < s.b1 + d) : vertical d s = .next (s.abort .overshoot) := if_pos h

theorem vertical_of_negativeRun (hle : s.b1 + d ≤ s.cfgWidth) (hlt : s.b1 + d < s.unpacked) :
    vertical d s = .next (s.abort .negativeRun) := by
  rw [vertical, if_neg (by omega), if_pos hlt]

/-- An abort frees the cursor and `B1`, so it forgets the search of the mode word (spec/60_exceptions.md R492). -/
theorem searched_abort (s : State) (n : Nat) (code : FaultCode) : (s.searched n).abort code = s.abort code := rfl

/-- Settles O39: the two checks of a Vertical mode, `WIDTH` first, in the state behind the search. -/
theorem verticalModeFaults : Obligations.VerticalModeFaults := by
  intro i n d s hmem hsp hr
  rw [exec_vertical hmem hsp hr]
  refine ⟨fun hover => ?_, fun hle hlt => ?_⟩
  · rw [vertical_of_overshoot (s := s.searched n) hover, searched_abort]
  · rw [vertical_of_negativeRun (s := s.searched n) hle hlt, searched_abort]

/-- A Vertical mode in one update of the state before its word. -/
theorem searched_afterVertical (s : State) (n : Nat) (d : Int) : (s.searched n).afterVertical d = { s with
    bitpos := s.bitpos + n
    b1 := ((s.findB1 s.a0 s.color : Nat) : Int)
    a1 := (s.findB1 s.a0 s.color : Int) + d
    output := (s.filled s.row s.unpacked ((s.findB1 s.a0 s.color : Int) + d).toNat s.color).output
    unpacked := ((s.findB1 s.a0 s.color : Int) + d).toNat
    a0 := (s.findB1 s.a0 s.color : Int) + d
    color := s.color.opp } := rfl

/-- Settles O41: the target is `WIDTH`, so the loop condition ends the row, which a command with mode positions does not align. -/
theorem verticalModeEndsRow : Obligations.VerticalModeEndsRow := by
  intro i n d s hmem hsp hr hm hcap hle htarget
  have hnext : exec i s = .next ((s.searched n).afterVertical d).loop2D := by
    rw [exec_vertical hmem hsp hr,
      vertical_of_fits (s := s.searched n) (htarget ▸ Int.ofNat_le.mpr hle) htarget.le hcap]
  have hne : s.command ≠ .g31d := fun hg => hm (command_eq_g31d_iff.mp hg)
  rw [hnext, searched_afterVertical, htarget, Int.toNat_natCast, loop2D_of_full le_rfl, endRow_of_unaligned]
  · rfl
  · exact fun hg => absurd hg hne

/-! ### The EOL at a mode position (R421, spec/47_line_orchestrators.md R470, R472) -/

/-- The EOFB has padded the rest of the row and the rows after it. -/
def State.afterPad (s : State) : State :=
  (s.filled s.row s.unpacked s.cfgWidth .white).filled 0 ((s.row + 1) * s.cfgWidth) (s.rows * s.cfgWidth) .white

/-- The end of the command at an EOFB in one update of the state before it: nothing is consumed (R421). -/
theorem afterPad_finish (s : State) : s.afterPad.finish =
    { s with output := s.afterPad.output, bitposOut := s.bitpos, status := .done, faultCode := .none } := rfl

theorem execEolAtMode_of_g4 (hsp : s.codeSpace = .mode) (hc : s.command = .g4) : execEolAtMode s = padEofb s := by
  rw [execEolAtMode, if_pos hsp, hc]

theorem execEolAtMode_of_g32d (hsp : s.codeSpace = .mode) (hc : s.command = .g32d) :
    execEolAtMode s = .next (s.abort .unexpectedEol) := by
  rw [execEolAtMode, if_pos hsp, hc]

/-- Everything the EOL at a mode position can do. -/
theorem execEolAtMode_cases (h : execEolAtMode s = .next t) : t = s.abort .unexpectedEol ∨ t = s.afterPad.finish := by
  unfold execEolAtMode at h
  split at h
  · cases hc : s.command <;> rw [hc] at h
    case g4 => exact .inr (padEofb_cases h)
    all_goals exact .inl (Host.Outcome.next.inj h).symm
  · cases h

theorem padEofb_of_fits (hrow : s.row < s.rows) (hcap : s.rows * s.cfgWidth ≤ s.outCap) :
    padEofb s = .next s.afterPad.finish := by
  have hlast : (s.row + 1) * s.cfgWidth ≤ s.outCap := (Nat.mul_le_mul_right _ hrow).trans hcap
  rw [padEofb, fill_of_row s.unpacked le_rfl hlast, andThen_next, fillRowsFrom, fill_of_fits, andThen_next]
  · rfl
  · change 0 * s.cfgWidth + s.rows * s.cfgWidth ≤ s.outCap
    omega

/-- The rest of the row and the rows after it lie one after another, so the pad is white without a gap (spec/20_memory.md R72). -/
theorem afterPad_read (hwf : s.output.wf = true) (hrow : s.row < s.rows) (hle : s.unpacked ≤ s.cfgWidth) :
    s.afterPad.output.read a =
      if s.row * s.cfgWidth + s.unpacked ≤ a ∧ a < s.rows * s.cfgWidth then s.byteOf .white else s.output.read a := by
  let u := s.filled s.row s.unpacked s.cfgWidth .white
  have hrows : (s.row + 1) * s.cfgWidth ≤ s.rows * s.cfgWidth := Nat.mul_le_mul_right _ hrow
  have hnext : (s.row + 1) * s.cfgWidth = s.row * s.cfgWidth + s.cfgWidth := Nat.add_one_mul _ _
  have hsecond : s.afterPad.output.read a =
      if 0 * s.cfgWidth + (s.row + 1) * s.cfgWidth ≤ a ∧ a < 0 * s.cfgWidth + s.rows * s.cfgWidth then s.byteOf .white
      else u.output.read a := filled_read (s := u) (filled_wf hwf)
  rw [hsecond, filled_read hwf, ← ite_or]
  exact if_congr (by omega) rfl rfl

/-- Settles O45: the operation that the command selects, and for the EOFB the bytes of its pad. -/
theorem eolAtModeEndsCommand : Obligations.EolAtModeEndsCommand := by
  intro s hsp
  refine ⟨fun hm => execEolAtMode_of_g32d hsp (command_of_mode hm), fun hm hwf hrow hle hcap => ?_⟩
  have hnext : exec .eolAtMode s = .next s.afterPad.finish :=
    (execEolAtMode_of_g4 hsp (command_of_mode hm)).trans (padEofb_of_fits hrow hcap)
  exact ⟨_, hnext, afterPad_finish s, fun a => afterPad_read hwf hrow hle⟩

/-! ### The frame of a mode word -/

/-- The loop condition of `Line2D` in one equation: only the cursor and the position move, and at the end of the row `ROW` and `REF`. -/
theorem loop2D_eq (s : State) : ∃ b r q p, s.loop2D = { s with bitpos := b, row := r, ref := q, pos := p } ∧
    (s.unpacked < s.cfgWidth → r = s.row ∧ q = s.ref) := by
  obtain ⟨-, hl⟩ | ⟨hfull, hl⟩ := loop2D_cases s
  · exact ⟨s.bitpos, s.row, s.ref, .mode, hl, fun _ => ⟨rfl, rfl⟩⟩
  · obtain ⟨b, -, hend⟩ := endRow_eq s
    exact ⟨b, s.row + 1, .row s.row, .rowStart, hl.trans hend, fun hlt => absurd hlt (Nat.not_lt.mpr hfull)⟩

/-- What the mode word `i` leaves unchanged in `s`, the state `t` being next: it stores from `ROW*WIDTH + UNPACKED` to below `target`. -/
structure ModeFrame (i : Instr) (target : Nat) (s t : State) : Prop where
  settings : t.settings = s.settings
  cmdStart : t.cmdStart = s.cmdStart
  eolSeen : t.eolSeen = s.eolSeen
  hRun1 : t.hRun1 = s.hRun1
  report : i ≠ .eolAtMode → t.status = s.status ∧ t.faultCode = s.faultCode ∧ t.bitposOut = s.bitposOut
  colour : (i = .p ∨ i = .h ∨ i = .eolAtMode) → t.color = s.color ∧ t.a1 = s.a1
  place : (i = .h ∨ i = .eolAtMode) → t.row = s.row ∧ t.ref = s.ref ∧ t.unpacked = s.unpacked ∧ t.a0 = s.a0
  cursor : i = .eolAtMode → t.bitpos = s.bitpos ∧ t.b1 = s.b1 ∧ t.pos = s.pos
  b2 : i ≠ .p → t.b2 = s.b2
  runAcc : i ≠ .h → t.runAcc = s.runAcc
  inRow : t.unpacked < s.cfgWidth → t.row = s.row ∧ t.ref = s.ref
  bytes : ∀ a, (a < s.row * s.cfgWidth + s.unpacked ∨ target ≤ a) → t.output.read a = s.output.read a

/-- A Pass in one update of the state before its word. -/
theorem searched_afterPass (s : State) : (s.searched 4).afterPass = { s with
    bitpos := s.bitpos + 4
    b1 := ((s.findB1 s.a0 s.color : Nat) : Int)
    b2 := ((s.findB2 (s.findB1 s.a0 s.color) : Nat) : Int)
    output := (s.filled s.row s.unpacked (s.findB2 (s.findB1 s.a0 s.color)) s.color).output
    unpacked := s.findB2 (s.findB1 s.a0 s.color)
    a0 := ((s.findB2 (s.findB1 s.a0 s.color) : Nat) : Int) } := rfl

theorem pass_frame (hwf : s.output.wf = true) (h : exec .p s = .next t) :
    ModeFrame .p (s.row * s.cfgWidth + s.findB2 (s.findB1 s.a0 s.color)) s t := by
  obtain ⟨-, hpass⟩ := modeWord_next h
  have ht : t = (s.searched 4).afterPass.loop2D := pass_cases hpass
  obtain ⟨b, r, q, p, hl, hin⟩ := loop2D_eq (s.searched 4).afterPass
  rw [ht, hl, searched_afterPass]
  exact ⟨rfl, rfl, rfl, rfl, fun _ => ⟨rfl, rfl, rfl⟩, fun _ => ⟨rfl, rfl⟩, by simp, by simp, by simp, fun _ => rfl, hin,
    fun _ => filled_read_outside hwf⟩

theorem horizontal_frame (h : exec .h s = .next t) : ModeFrame .h (s.row * s.cfgWidth + s.unpacked) s t := by
  obtain ⟨hsp, hr, -⟩ := modeWord_cases h
  obtain ⟨u, hu, -, rfl⟩ := horizontalBeginsFirstRun s hsp hr
  obtain rfl := Host.Outcome.next.inj (hu.symm.trans h)
  exact ⟨rfl, rfl, rfl, rfl, fun _ => ⟨rfl, rfl, rfl⟩, fun _ => ⟨rfl, rfl⟩, fun _ => ⟨rfl, rfl, rfl, rfl⟩, by simp,
    fun _ => rfl, by simp, fun _ => ⟨rfl, rfl⟩, fun _ _ => rfl⟩

theorem eolAtMode_frame (hwf : s.output.wf = true) (hrow : s.row < s.rows) (hle : s.unpacked ≤ s.cfgWidth)
    (h : exec .eolAtMode s = .next t) (hf : t.status ≠ .fault) : ModeFrame .eolAtMode (s.rows * s.cfgWidth) s t := by
  obtain rfl | rfl := execEolAtMode_cases h
  · exact absurd rfl hf
  · rw [afterPad_finish]
    exact ⟨rfl, rfl, rfl, rfl, by simp, fun _ => ⟨rfl, rfl⟩, fun _ => ⟨rfl, rfl, rfl, rfl⟩, fun _ => ⟨rfl, rfl, rfl⟩,
      fun _ => rfl, fun _ => rfl, fun _ => ⟨rfl, rfl⟩,
      fun a ha => (afterPad_read hwf hrow hle).trans (if_neg (by omega))⟩

theorem verticalModes_ne : ∀ e ∈ verticalModes, e.1 ≠ .p ∧ e.1 ≠ .h ∧ e.1 ≠ .eolAtMode := by
  decide

theorem vertical_frame (hmem : (i, n, d) ∈ verticalModes) (hwf : s.output.wf = true) (h : exec i s = .next t)
    (hf : t.status ≠ .fault) :
    ModeFrame i (s.row * s.cfgWidth + (((s.findB1 s.a0 s.color : Nat) : Int) + d).toNat) s t := by
  obtain ⟨hp, hh, he⟩ := verticalModes_ne _ hmem
  rw [verticalModes_meaning _ hmem] at h
  obtain ⟨-, hvert⟩ := modeWord_next h
  obtain ⟨-, rfl⟩ | ⟨-, -, rfl⟩ | ⟨-, -, hloop⟩ := vertical_cases hvert
  · exact absurd rfl hf
  · exact absurd rfl hf
  · have ht : t = ((s.searched n).afterVertical d).loop2D := hloop
    obtain ⟨b, r, q, p, hl, hin⟩ := loop2D_eq ((s.searched n).afterVertical d)
    rw [ht, hl, searched_afterVertical]
    exact ⟨rfl, rfl, rfl, rfl, fun _ => ⟨rfl, rfl, rfl⟩, by simp [hp, hh, he], by simp [hh, he], by simp [he], fun _ => rfl,
      fun _ => rfl, hin, fun _ => filled_read_outside hwf⟩

/-- Settles O58: the frame of the word's kind, the settings one by one. -/
theorem modeWordFrame : Obligations.ModeWordFrame := by
  intro i target s t a hword hwf hrow hle h hf
  have hframe : ModeFrame i (target s) s t := by
    obtain ⟨rfl, rfl⟩ | ⟨rfl, rfl⟩ | ⟨rfl, rfl⟩ | ⟨d, hmem, rfl⟩ := hword
    · exact pass_frame hwf h
    · exact horizontal_frame h
    · exact eolAtMode_frame hwf hrow hle h hf
    · obtain ⟨⟨j, n, d⟩, hentry, hij⟩ : ∃ e ∈ verticalModes, (e.1, e.2.2) = (i, d) := List.mem_map.mp hmem
      obtain ⟨rfl, rfl⟩ := Prod.mk.inj hij
      exact vertical_frame hentry hwf h hf
  have hsettings := hframe.settings
  simp only [State.settings, hostReadConfig, Prod.mk.injEq, ConfigValues.mk.injEq] at hsettings
  obtain ⟨⟨hmode, hlsb, hphot, hbps, hwidth, hskip, hreq, hcap⟩, hlen, hin⟩ := hsettings
  exact ⟨hmode, hlsb, hphot, hbps, hwidth, hskip, hreq, hlen, hcap, hframe.cmdStart, hin, hframe.eolSeen, hframe.hRun1,
    hframe.report, hframe.colour, hframe.place, hframe.cursor, hframe.b2, hframe.runAcc, hframe.inRow, hframe.bytes a⟩

end Sys2Proof.Machine
end

section
/-! PROOFS. The leading EOL at the cursor, the frame of the words of a row's start, the head of the row loop where no word is read
(spec/47_line_orchestrators.md R463 to R475), and the checks that end a command (R460). -/

namespace Sys2Proof.Machine

variable {s t u : State} {i : Instr} {z n : Nat} {bits : List Bool}

/-! ### Which bits are a leading EOL (spec/47_line_orchestrators.md R464) -/

theorem decodeLeadingEol_eq_ok_iff :
    decodeLeadingEol bits = .ok (.leol z) ↔ 11 ≤ z ∧ encode (.leol z) <+: bits := by
  constructor
  · intro h
    obtain ⟨-, hwf, hpre⟩ := decodeLeadingEol_encode h
    exact ⟨of_decide_eq_true hwf, hpre⟩
  · rintro ⟨h, rest, rfl⟩
    exact decodeLeadingEol_of_encode h rest

theorem decodeLeadingEol_eq_error_iff :
    decodeLeadingEol bits = .error .noLeadingEol ↔ ∀ z, decodeLeadingEol bits ≠ .ok (.leol z) := by
  unfold decodeLeadingEol
  dsimp only
  split <;> simp

theorem isPrefix_peekBits_iff : bits <+: s.peekBits n ↔ bits.length ≤ n ∧ s.peekBits bits.length = bits := by
  constructor
  · intro h
    have hle : bits.length ≤ n := peekBits_length s n ▸ h.length_le
    have hpre := List.prefix_of_prefix_length_le (peekBits_prefix hle s) h (peekBits_length s _).le
    exact ⟨hle, hpre.eq_of_length (peekBits_length s _)⟩
  · rintro ⟨hle, h⟩
    exact h ▸ peekBits_prefix hle s

theorem peekBits_eq_zeros_iff :
    s.peekBits n = List.replicate n false ↔ ∀ i, i < n → s.streamBit (s.bitpos + i) = false := by
  simp [List.eq_replicate_iff, State.peekBits]

/-- The encoding of an EOL of `z` zeros stands at the cursor bit by bit. -/
theorem encode_leol_prefix_iff :
    encode (.leol z) <+: s.bitsToEnd ↔
      s.bitpos + z < 8 * s.inLen ∧ (∀ i, i < z → s.streamBit (s.bitpos + i) = false) ∧ s.streamBit (s.bitpos + z) = true := by
  have hlen : (encode (.leol z)).length = z + 1 := by simp [encode]
  have hbits : s.peekBits (z + 1) = encode (.leol z) ↔
      s.peekBits z = List.replicate z false ∧ s.streamBit (s.bitpos + z) = true := by
    simp [peekBits_succ, encode]
  rw [State.bitsToEnd, isPrefix_peekBits_iff, hlen, hbits, peekBits_eq_zeros_iff]
  exact and_congr_left' (by omega)

theorem fetch_of_rowStart (hsp : s.codeSpace = .rowStart) : s.fetch = decodeLeadingEol s.bitsToEnd := by
  rw [State.fetch, State.fetchBits, hsp]
  rfl

/-- Settles O46: the decoder finds the one EOL whose encoding stands at the cursor, and no word where there is none. -/
theorem leadingEolIsRecognised : Obligations.LeadingEolIsRecognised := by
  intro s hsp eol
  have hfound (z : Nat) : s.fetch = .ok (.leol z) ↔ eol z := by
    rw [fetch_of_rowStart hsp, decodeLeadingEol_eq_ok_iff, encode_leol_prefix_iff]
  refine ⟨hfound, ?_⟩
  rw [fetch_of_rowStart hsp, decodeLeadingEol_eq_error_iff, ← fetch_of_rowStart hsp]
  exact forall_congr' fun z => not_congr (hfound z)

/-! ### The frame of the words of a row's start (spec/47_line_orchestrators.md R465, R469 to R471) -/

/-- What the row word `i` leaves unchanged in `s`, the state `t` being next. -/
structure RowFrame (i : Instr) (s t : State) : Prop where
  settings : t.settings = s.settings
  output : t.output = s.output
  cmdStart : t.cmdStart = s.cmdStart
  report : t.status = s.status ∧ t.faultCode = s.faultCode ∧ t.bitposOut = s.bitposOut
  modes : t.hRun1 = s.hRun1 ∧ t.b1 = s.b1 ∧ t.b2 = s.b2 ∧ t.a1 = s.a1
  inRow : 0 < s.cfgWidth → t.row = s.row ∧ t.ref = s.ref
  a0 : i ≠ .tag0 → t.a0 = s.a0
  eolSeen : (i = .tag1 ∨ i = .tag0) → t.eolSeen = s.eolSeen

/-- The loop condition at the start of a row leaves the frame as it is: where `WIDTH` is not 0, the row is not complete. -/
theorem RowFrame.loop (h : RowFrame i s u) (h0 : u.unpacked = 0) (hl : LoopFrame u t) : RowFrame i s t := by
  have haside := hl.aside
  simp only [State.aside, Prod.mk.injEq] at haside
  obtain ⟨hset, hstart, heol, hb1, hb2, ha1⟩ := haside
  obtain ⟨hstatus, hfault, hpos⟩ := h.report
  obtain ⟨hr, hb1', hb2', ha1'⟩ := h.modes
  have hwidth : u.cfgWidth = s.cfgWidth := congrArg (fun p => p.1.width) h.settings
  refine ⟨hset.trans h.settings, hl.output.trans h.output, hstart.trans h.cmdStart,
    ⟨hl.status.trans hstatus, hl.faultCode.trans hfault, hl.bitposOut.trans hpos⟩,
    ⟨hl.hRun1.trans hr, hb1.trans hb1', hb2.trans hb2', ha1.trans ha1'⟩, fun hw => ?_,
    fun hi => hl.a0.trans (h.a0 hi), fun hi => heol.trans (h.eolSeen hi)⟩
  obtain ⟨hrow, href⟩ := hl.inRow (by rw [hl.unpacked, h0, hwidth]; exact hw)
  obtain ⟨hrow', href'⟩ := h.inRow hw
  exact ⟨hrow.trans hrow', href.trans href'⟩

/-- The start of a 1-D row goes on from its first run or ends the row. -/
theorem beginLine1D_rowFrame (h : RowFrame i s u) : RowFrame i s u.beginLine1D :=
  RowFrame.loop (u := { u with unpacked := 0, color := .white }) { h with } rfl (loop1D_frame _)

/-- The start of a 2-D row, which sets `A0` (spec/46_two_dimensional.md R420), reads its first mode or ends the row. -/
theorem beginLine2D_rowFrame (h : RowFrame .tag0 s u) : RowFrame .tag0 s u.beginLine2D :=
  RowFrame.loop (u := { u with a0 := -1, unpacked := 0, color := .white }) { h with a0 := by simp } rfl (loop2D_frame _)

/-- Everything that can follow a leading EOL. -/
theorem afterLeadingEol_cases (s : State) :
    s.afterLeadingEol = { s with eolSeen := true }.beginLine1D ∨ s.afterLeadingEol = { s with pos := .tag } := by
  unfold State.afterLeadingEol
  cases s.command
  case g31d => exact .inl rfl
  all_goals exact .inr rfl

theorem advance_rowFrame (i : Instr) (s : State) (n : Nat) : RowFrame i s (s.advance n) :=
  ⟨rfl, rfl, rfl, ⟨rfl, rfl, rfl⟩, ⟨rfl, rfl, rfl, rfl⟩, fun _ => ⟨rfl, rfl⟩, fun _ => rfl, fun _ => rfl⟩

theorem leol_frame (h : exec (.leol z) s = .next t) : RowFrame (.leol z) s t := by
  rw [exec_leol, execLeol] at h
  split at h <;> cases h
  have hadv := advance_rowFrame (.leol z) s (z + 1)
  obtain he | he := afterLeadingEol_cases (s.advance (z + 1)) <;> rw [he]
  · exact beginLine1D_rowFrame { hadv with eolSeen := by simp }
  · exact { hadv with }

theorem tag1_frame (h : exec .tag1 s = .next t) : RowFrame .tag1 s t := by
  change execTag1 s = .next t at h
  rw [execTag1] at h
  split at h <;> cases h
  exact beginLine1D_rowFrame (advance_rowFrame .tag1 s 1)

theorem tag0_frame (h : exec .tag0 s = .next t) (hf : t.status ≠ .fault) : RowFrame .tag0 s t := by
  rw [exec_tag0, execTag0] at h
  split at h
  · split at h <;> cases h
    · exact absurd rfl hf
    · exact beginLine2D_rowFrame (advance_rowFrame .tag0 s 1)
  · cases h

/-- Settles O59: the frame of each word, the settings one by one. -/
theorem rowWordFrame : Obligations.RowWordFrame := by
  intro i s t hword h hf
  have hframe : RowFrame i s t := by
    obtain rfl | rfl | ⟨z, rfl⟩ := hword
    · exact tag1_frame h
    · exact tag0_frame h hf
    · exact leol_frame h
  have hsettings := hframe.settings
  simp only [State.settings, hostReadConfig, Prod.mk.injEq, ConfigValues.mk.injEq] at hsettings
  obtain ⟨⟨hmode, hlsb, hphot, hbps, hwidth, hskip, hreq, hcap⟩, hlen, hin⟩ := hsettings
  obtain ⟨hstatus, hfault, hpos⟩ := hframe.report
  obtain ⟨hrun, hb1, hb2, ha1⟩ := hframe.modes
  exact ⟨hframe.output, hin, hmode, hlsb, hphot, hbps, hwidth, hskip, hreq, hlen, hcap, hframe.cmdStart, hstatus, hfault, hpos,
    hrun, hb1, hb2, ha1, hframe.inRow, hframe.a0, hframe.eolSeen⟩

/-! ### The head of the row loop (spec/47_line_orchestrators.md R463, R474, R475) -/

theorem step_of_noCodeSpace (hb : s.status = .busy) (hsp : s.codeSpace = .none) : step s = rowLoop s := by
  have hfetch : s.fetch = .error .noCodeSpace := by rw [State.fetch, hsp, decode]
  rw [step_eq_answer (awake_iff.mpr hb), hfetch, answer, noWord]

theorem codeSpace_of_rowHead (hb : s.status = .busy) (hc : s.cmdStart = false) (hp : s.pos = .rowStart) :
    s.codeSpace = s.rowStartSpace := by
  rw [codeSpace_of_running hb hc, State.posSpace, hp]

theorem rowStartSpace_of_g4 (hm : s.command = .g4) : s.rowStartSpace = .none := by
  rw [State.rowStartSpace, hm]
  exact ite_self _

theorem rowWithoutEol_g4 (hm : s.command = .g4) : rowWithoutEol s = .next s.beginLine2D := by
  rw [rowWithoutEol, hm]

/-- Settles O50: no word is read at the head of a Group 4 row, nor behind the last row. -/
theorem rowLoopBeginsOrEnds : Obligations.RowLoopBeginsOrEnds := by
  intro s hb hc hp
  have hsp := codeSpace_of_rowHead hb hc hp
  have hrow (hlt : s.row < s.rows) (hm : s.cfgMode = 2#2) : step s = .next s.beginLine2D := by
    have hg4 : s.command = .g4 := command_of_mode hm
    rw [step_of_noCodeSpace hb (hsp.trans (rowStartSpace_of_g4 hg4)), rowLoop, if_pos hlt, rowWithoutEol_g4 hg4]
  refine ⟨fun hlt hm hw => ?_, fun hlt hm hw => ?_, fun hle => ?_⟩
  · rw [hrow hlt hm, beginLine2D_of_room hw]
  · rw [hrow hlt hm, beginLine2D_of_empty hw fun hg => ?_]
    rw [command_of_mode hm] at hg
    cases hg
  · have hend : ¬ s.row < s.rows := Nat.not_lt.mpr hle
    rw [step_of_noCodeSpace hb (hsp.trans (if_neg hend)), rowLoop, if_neg hend, State.finish]

/-! ### The configuration checks (spec/47_line_orchestrators.md R460) -/

theorem checkConfig_of_mode (hm : s.cfgMode = 3#2) : s.checkConfig = s.abort .unsupportedMode := if_pos hm

theorem checkConfig_of_bps (hm : s.cfgMode ≠ 3#2) (hp : s.cfgPhotometric ≤ 1) (hb : s.cfgBps ≠ 1) :
    s.checkConfig = s.abort .unsupportedBitsPerSample := by
  rw [State.checkConfig, if_neg hm, if_neg (by omega), if_pos hb]

theorem checkConfig_of_outCap (hm : s.cfgMode ≠ 3#2) (hp : s.cfgPhotometric ≤ 1) (hb : s.cfgBps = 1)
    (hcap : s.outCap < s.cfgWidth * s.rows) : s.checkConfig = s.abort .outputTooSmall := by
  rw [State.checkConfig, if_neg hm, if_neg (by omega), if_neg (not_not.mpr hb), if_pos hcap]

/-- The commands that decode, with the values of `CFG_MODE` that select them (spec/10_state.md R22). -/
theorem decodeCommands_selected :
    ∀ e ∈ [(Instr.decodeG31d, 0#2), (.decodeG32d, 1#2), (.decodeG4, 2#2)], e.1 = commandInstr (commandOf e.2) ∧ e.2 ≠ 3#2 := by
  decide

/-- Settles O52: the word of the selected command runs the checks on the initial datapath, and the first that fails aborts. -/
theorem commandChecksInOrder : Obligations.CommandChecksInOrder := by
  intro s hsp
  refine ⟨fun hm => ?_, fun i m hmem hm => ?_⟩
  · have hexec := exec_command_of_space (k := .reserved) hsp (command_of_mode hm)
    exact hexec.trans (congrArg _ (checkConfig_of_mode (s := s.initDatapath) hm))
  · obtain ⟨hi, h3⟩ : i = commandInstr (commandOf m) ∧ m ≠ 3#2 := decodeCommands_selected _ hmem
    have hexec : exec i s = .next s.initDatapath.checkConfig := hi ▸ exec_command_of_space hsp (command_of_mode hm)
    have hne : s.initDatapath.cfgMode ≠ 3#2 := hm.trans_ne h3
    rw [hexec]
    exact ⟨fun hp => congrArg _ (checkConfig_of_photometric hne hp), fun hp hb => congrArg _ (checkConfig_of_bps hne hp hb),
      fun hp hb hcap => congrArg _ (checkConfig_of_outCap hne hp hb hcap)⟩

end Sys2Proof.Machine
end

section
/-! PROOFS. The cursor and the end of a command (spec/70_reset_and_hazards.md R531, R534). `CursorStep` says once what a step of a running
command does to the cursor and to the row; past the end of the input only zeros are read, which are no word that a command goes on
with (`word_inside_input`). So the cursor stays near the end of the input, and every step leaves fewer steps. -/

namespace Sys2Proof.Machine

variable {s t u : State} {code : FaultCode} {c : Colour}

/-! ### Hardware reset (R531) -/

/-- Settles O55: a reset while `BUSY` leaves only bytes of the image unspecified. -/
theorem hardResetLeavesBuffers : Obligations.HardResetLeavesBuffers := by
  intro s hwf
  refine ⟨rfl, rfl, rfl, rfl, fun hb => if_neg hb, fun a ha => ?_⟩
  by_cases hb : s.status = .busy
  · rw [hardReset, if_pos hb]
    exact Memory.read_unspecified_above hwf ((min_le_left _ _).trans ha)
  · rw [hardReset, if_neg hb]

/-! ### No word stands past the end of the input -/

theorem peek_past_end (h : 8 * s.inLen ≤ s.bitpos) (n : Nat) : s.peek n = 0 := (peekIsLeftJustified s n).2 h

/-- No run-length code is all zeros (spec/30_encoding.md R97). -/
theorem runLookup_zeros (c : Colour) : runLookup (runTable c) 0 = none := by
  cases c <;> decide

/-- The zeros of a mode window are an extension escape (spec/43_mode_codes.md R361). -/
theorem decodeModeWindow_zeros : decodeModeWindow 0 = .ok (.x1d 0) := rfl

theorem fetch_of_mode (h : s.codeSpace = .mode) : s.fetch = decodeModeWindow (s.peek 12) := by
  have hwindow : windowOf 12 (s.peekBits 12) = s.peek 12 := by
    rw [← List.append_nil (s.peekBits 12), windowOf_append_of_length (peekBits_length s 12), State.peek]
  rw [State.fetch, State.fetchBits, h, ← hwindow]
  rfl

theorem step_of_mode_past_end (hsp : s.codeSpace = .mode) (h : 8 * s.inLen ≤ s.bitpos) :
    step s = .next (s.abort .unsupportedExtension) := by
  have hfetch : s.fetch = .ok (.x1d 0) := by rw [fetch_of_mode hsp, peek_past_end h, decodeModeWindow_zeros]
  rw [step_eq_answer (awake_iff.mpr (codeSpace_eq_mode.mp hsp).1), hfetch]
  exact extension_of_space hsp

theorem runStop_status_ne_busy (h : runStop code s = .next t) : t.status ≠ .busy := by
  obtain ⟨-, rfl⟩ | ⟨-, rfl⟩ := runStop_cases h <;> simp

/-- Inside a row the engine reads a mode or a run-length word (spec/30_encoding.md R92). -/
theorem codeSpace_inRow (hs : s.Running) (hp : ¬ (s.pos = .rowStart ∨ s.pos = .tag)) :
    s.codeSpace = .mode ∨ ∃ c, s.codeSpace = runSpace c := by
  rw [codeSpace_of_running hs.busy hs.started]
  unfold State.posSpace
  cases h : s.pos with
  | rowStart => exact absurd (.inl h) hp
  | tag => exact absurd (.inr h) hp
  | run => exact .inr ⟨_, rfl⟩
  | mode => exact .inl rfl
  | hRun1 => exact .inr ⟨_, rfl⟩
  | hRun2 => exact .inr ⟨_, rfl⟩

/-- A word of a row with which the command goes on begins inside the input. -/
theorem word_inside_input (hs : s.Running) (hp : ¬ (s.pos = .rowStart ∨ s.pos = .tag)) (h : step s = .next t)
    (ht : t.status = .busy) : s.bitpos < 8 * s.inLen := by
  refine Nat.lt_of_not_le fun hend => ?_
  obtain hsp | ⟨c, hsp⟩ := codeSpace_inRow hs hp
  · rw [step_of_mode_past_end hsp hend] at h
    cases h
    cases ht
  · have hmiss : runLookup (runTable c) (s.peek 16) = none := by rw [peek_past_end hend, runLookup_zeros]
    rw [step_of_lookupMiss hsp hmiss] at h
    exact runStop_status_ne_busy h ht

/-! ### What a step does to the cursor and to the row -/

theorem inLen_of_settings (h : t.settings = s.settings) : t.inLen = s.inLen := congrArg (fun p => p.2.1) h

theorem rows_of_settings (h : t.settings = s.settings) : t.rows = s.rows :=
  congrArg (fun p => p.1.skip + p.1.req) h

/-- The command goes on from `s`: at a word of the row, the cursor where it was, or at the head of the next row, the cursor moved to the
next byte at most (spec/47_line_orchestrators.md R466). -/
structure State.GoesOn (s t : State) : Prop where
  settings : t.settings = s.settings
  running : t.Running
  moves : (t.bitpos = s.bitpos ∧ t.row = s.row ∧ ¬ (t.pos = .rowStart ∨ t.pos = .tag)) ∨
    (s.bitpos ≤ t.bitpos ∧ t.bitpos ≤ 8 * ((s.bitpos + 7) / 8) ∧ t.row = s.row + 1 ∧ t.pos = .rowStart)

/-- Only the settings, the cursor and the row of the state before count. -/
theorem State.GoesOn.of_same (h : u.GoesOn t) (hset : u.settings = s.settings) (hbit : u.bitpos = s.bitpos)
    (hrow : u.row = s.row) : s.GoesOn t :=
  ⟨h.settings.trans hset, h.running, by rw [← hbit, ← hrow]; exact h.moves⟩

theorem endRow_goesOn (hs : s.Running) : s.GoesOn s.endRow := by
  obtain ⟨-, -, he⟩ | ⟨-, he⟩ := endRow_cases s <;> rw [he]
  · exact ⟨rfl, ⟨hs.busy, hs.started⟩, .inr ⟨show s.bitpos ≤ 8 * ((s.bitpos + 7) / 8) by omega, le_rfl, rfl, rfl⟩⟩
  · exact ⟨rfl, ⟨hs.busy, hs.started⟩, .inr ⟨le_rfl, show s.bitpos ≤ 8 * ((s.bitpos + 7) / 8) by omega, rfl, rfl⟩⟩

theorem loop1D_goesOn (hs : s.Running) : s.GoesOn s.loop1D := by
  obtain ⟨-, hl⟩ | ⟨-, hl⟩ := loop1D_cases s <;> rw [hl]
  · exact ⟨rfl, ⟨hs.busy, hs.started⟩, .inl ⟨rfl, rfl, by simp⟩⟩
  · exact endRow_goesOn hs

theorem loop2D_goesOn (hs : s.Running) : s.GoesOn s.loop2D := by
  obtain ⟨-, hl⟩ | ⟨-, hl⟩ := loop2D_cases s <;> rw [hl]
  · exact ⟨rfl, ⟨hs.busy, hs.started⟩, .inl ⟨rfl, rfl, by simp⟩⟩
  · exact endRow_goesOn hs

theorem beginLine1D_goesOn (hs : s.Running) : s.GoesOn s.beginLine1D :=
  (loop1D_goesOn (s := { s with unpacked := 0, color := .white }) ⟨hs.busy, hs.started⟩).of_same rfl rfl rfl

theorem beginLine2D_goesOn (hs : s.Running) : s.GoesOn s.beginLine2D :=
  (loop2D_goesOn (s := { s with a0 := -1, unpacked := 0, color := .white }) ⟨hs.busy, hs.started⟩).of_same rfl rfl rfl

theorem afterRun1D_goesOn (hs : s.Running) : s.GoesOn s.afterRun1D.loop1D :=
  (loop1D_goesOn (s := s.afterRun1D) ⟨hs.busy, hs.started⟩).of_same rfl rfl rfl

theorem afterRuns2D_settings (s : State) : s.afterRuns2D.settings = s.settings := by
  simp only [State.afterRuns2D, State.filled, State.settings, hostReadConfig]

theorem afterRuns2D_goesOn (hs : s.Running) : s.GoesOn s.afterRuns2D.loop2D :=
  (loop2D_goesOn (s := s.afterRuns2D) ⟨hs.busy, hs.started⟩).of_same (afterRuns2D_settings s) rfl rfl

theorem afterVertical_goesOn (hs : s.Running) (d : Int) : s.GoesOn (s.afterVertical d).loop2D :=
  (loop2D_goesOn (s := s.afterVertical d) ⟨hs.busy, hs.started⟩).of_same rfl rfl rfl

theorem afterPass_goesOn (hs : s.Running) : s.GoesOn s.afterPass.loop2D :=
  (loop2D_goesOn (s := s.afterPass) ⟨hs.busy, hs.started⟩).of_same rfl rfl rfl

/-- What a step of a running command does to the cursor and to the row: it ends the command, consumes a word of the row, begins a row
with its leading EOL or without one, begins it with its tag, or stands at the tag. -/
inductive CursorStep (s t : State) : Prop
  | fault (ht : t.status = .fault)
  | done (ht : t.status = .done) (hout : t.bitposOut = s.bitpos)
  | word (n : Nat) (hn : 1 ≤ n ∧ n ≤ 13) (hp : ¬ (s.pos = .rowStart ∨ s.pos = .tag)) (ht : (s.advance n).GoesOn t)
  | row (n : Nat) (hn : s.bitpos + n ≤ max s.bitpos (8 * s.inLen)) (hp : s.pos = .rowStart) (hr : s.row < s.rows)
      (ht : (s.advance n).GoesOn t)
  | tag (hp : s.pos = .tag) (ht : (s.advance 1).GoesOn t)
  | leadingEol (zeros : Nat) (hz : s.bitpos + zeros < 8 * s.inLen) (hp : s.pos = .rowStart)
      (ht : t = { s.advance (zeros + 1) with pos := .tag })

theorem RunningStep.cursorStep (h : RunningStep s t) (hs : s.Running) : CursorStep s t := by
  have inRow {p : Pos} (hp : s.pos = p) (hrow : p ≠ .rowStart ∧ p ≠ .tag) : ¬ (s.pos = .rowStart ∨ s.pos = .tag) := by
    rw [hp]
    exact not_or.mpr hrow
  have running {u : State} (hb : u.status = s.status) (hc : u.cmdStart = s.cmdStart) : u.Running :=
    ⟨hb.trans hs.busy, hc.trans hs.started⟩
  cases h with
  | abort code _ => exact .fault rfl
  | finish _ _ => exact .done rfl rfl
  | padRow _ => exact .done rfl rfl
  | padImage _ _ => exact .done rfl rfl
  | makeup n run hn hp =>
    have hp : ¬ (s.pos = .rowStart ∨ s.pos = .tag) := by
      obtain hp | hp | hp := hp <;> exact inRow hp (by decide)
    exact .word n hn hp ⟨rfl, running rfl rfl, .inl ⟨rfl, rfl, hp⟩⟩
  | run1D n run hn hp _ =>
    have hgo := afterRun1D_goesOn (s := s.addRun n run) (running rfl rfl)
    exact .word n hn (inRow hp (by decide)) (hgo.of_same rfl rfl rfl)
  | firstRun n run hn hp =>
    exact .word n hn (inRow hp (by decide)) ⟨rfl, running rfl rfl, .inl ⟨rfl, rfl, by simp [State.endHRun1]⟩⟩
  | secondRun n run hn hp _ =>
    have hgo := afterRuns2D_goesOn (s := s.addRun n run) (running rfl rfl)
    exact .word n hn (inRow hp (by decide)) (hgo.of_same rfl rfl rfl)
  | vertical n d hn hp _ _ =>
    have hgo := afterVertical_goesOn (s := s.searched n) (running rfl rfl) d
    exact .word n (by omega) (inRow hp (by decide)) (hgo.of_same rfl rfl rfl)
  | pass hp =>
    have hgo := afterPass_goesOn (s := s.searched 4) (running rfl rfl)
    exact .word 4 (by decide) (inRow hp (by decide)) (hgo.of_same rfl rfl rfl)
  | horizontal hp =>
    exact .word 3 (by decide) (inRow hp (by decide)) ⟨rfl, running rfl rfl, .inl ⟨rfl, rfl, by simp⟩⟩
  | leol1D zeros hz hp hr _ =>
    have hgo := beginLine1D_goesOn (s := { s.advance (zeros + 1) with eolSeen := true }) (running rfl rfl)
    exact .row (zeros + 1) (by omega) hp hr (hgo.of_same rfl rfl rfl)
  | leol2D zeros hz hp _ _ => exact .leadingEol zeros hz hp rfl
  | noEol1D hp hr _ =>
    have hgo := beginLine1D_goesOn (s := { s with eolSeen := false }) (running rfl rfl)
    exact .row 0 (le_max_left _ _) hp hr (hgo.of_same rfl rfl rfl)
  | rowG4 hp hr _ => exact .row 0 (le_max_left _ _) hp hr ((beginLine2D_goesOn hs).of_same rfl rfl rfl)
  | tag1 hp => exact .tag hp (beginLine1D_goesOn (running rfl rfl))
  | tag0 hp _ => exact .tag hp (beginLine2D_goesOn (running rfl rfl))

/-! ### The bound on the cursor (R534 h) -/

theorem cursorInv_of_fault (h : s.status = .fault) : s.cursorInv := by
  simp [State.cursorInv, h]

theorem cursorInv_of_running (hs : s.Running) (hle : s.bitpos ≤ 8 * s.inLen + 16)
    (htag : s.pos = .tag → s.bitpos ≤ 8 * s.inLen) : s.cursorInv :=
  ⟨fun _ _ => ⟨hle, htag⟩, by simp [hs.busy]⟩

/-- The bound is a multiple of 8, so the alignment at the end of a row keeps it. -/
theorem State.GoesOn.cursorInv (h : s.GoesOn t) (hle : s.bitpos ≤ 8 * s.inLen + 16) : t.cursorInv := by
  have hlen : t.inLen = s.inLen := inLen_of_settings h.settings
  obtain ⟨hb, -, hp⟩ | ⟨-, hb, -, hp⟩ := h.moves
  · exact cursorInv_of_running h.running (by omega) fun htag => absurd (.inr htag) hp
  · exact cursorInv_of_running h.running (by omega) (by simp [hp])

/-- Settles O7: a word begins inside the input and has at most 13 bits, and a tag follows a leading EOL, which lies inside. -/
theorem stepKeepsCursorBound : Obligations.StepKeepsCursorBound := by
  intro s t hinv h
  obtain ⟨-, rfl⟩ | ⟨-, -, rfl⟩ | ⟨hb, hc, hrun⟩ := step_cases h
  · exact hinv
  · obtain ⟨h, -⟩ | ⟨code, -, h⟩ := start_cases s <;> rw [h]
    · exact cursorInv_of_running ⟨rfl, rfl⟩ (Nat.zero_le _) fun _ => Nat.zero_le _
    · exact cursorInv_of_fault rfl
  · obtain ⟨hle, htag⟩ := hinv.1 hb hc
    cases hrun.cursorStep ⟨hb, hc⟩ with
    | fault ht => exact cursorInv_of_fault ht
    | done ht hout =>
      have hlen : t.inLen = s.inLen := inLen_of_settings (step_settings h)
      exact ⟨by simp [ht], fun _ => by rw [hout, hlen]; exact hle⟩
    | word n hn hp ht =>
      have hlt := word_inside_input ⟨hb, hc⟩ hp h ht.running.busy
      exact ht.cursorInv (show s.bitpos + n ≤ 8 * s.inLen + 16 by omega)
    | row n hn _ _ ht => exact ht.cursorInv (show s.bitpos + n ≤ 8 * s.inLen + 16 by omega)
    | tag hp ht =>
      have hin := htag hp
      exact ht.cursorInv (show s.bitpos + 1 ≤ 8 * s.inLen + 16 by omega)
    | leadingEol zeros hz _ ht =>
      rw [ht]
      exact cursorInv_of_running ⟨hb, hc⟩ (show s.bitpos + (zeros + 1) ≤ 8 * s.inLen + 16 by omega) fun _ => hz

/-! ### The steps that a command has left (R534 g) -/

theorem stepsLeft_rowHead (hs : s.Running) (hp : s.pos = .rowStart ∨ s.pos = .tag) :
    s.stepsLeft = (8 * s.inLen - s.bitpos) + (s.rows - s.row) + 1 := by
  simp only [State.stepsLeft, hs.started, Bool.false_eq_true, if_false, if_pos hp]

theorem stepsLeft_inRow (hs : s.Running) (hp : ¬ (s.pos = .rowStart ∨ s.pos = .tag)) :
    s.stepsLeft = (8 * s.inLen - s.bitpos) + (s.rows - s.row) := by
  simp only [State.stepsLeft, hs.started, Bool.false_eq_true, if_false, if_neg hp, Nat.add_zero]

theorem stepsLeft_of_start (h : s.cmdStart = true) : s.stepsLeft = 8 * s.inLen + s.rows + 2 := if_pos h

/-- The row that ends makes up for the head of the next one. -/
theorem State.GoesOn.stepsLeft_le (h : s.GoesOn t) (hr : s.row < s.rows) :
    t.stepsLeft ≤ (8 * s.inLen - s.bitpos) + (s.rows - s.row) := by
  have hlen : t.inLen = s.inLen := inLen_of_settings h.settings
  have hrows : t.rows = s.rows := rows_of_settings h.settings
  obtain ⟨hb, hrow, hp⟩ | ⟨hb, -, hrow, hp⟩ := h.moves
  · rw [stepsLeft_inRow h.running hp]
    omega
  · rw [stepsLeft_rowHead h.running (.inl hp)]
    omega

theorem row_lt_of_inv (hinv : s.Inv) (hs : s.Running) (hp : s.pos ≠ .rowStart) : s.row < s.rows :=
  (inRow_of_pos hinv hs.busy hs.started hp).row_lt

/-- A step with which a running command goes on leaves it fewer steps: it consumes a word, or it leaves the head of a row. -/
theorem running_stepsLeft_lt (hinv : s.Inv) (hs : s.Running) (h : step s = .next t) (hc : CursorStep s t)
    (ht : t.status = .busy) : t.stepsLeft < s.stepsLeft := by
  cases hc with
  | fault hf => cases ht.symm.trans hf
  | done hd _ => cases ht.symm.trans hd
  | word n hn hp hgo =>
    have hlt := word_inside_input hs hp h ht
    have hrow := row_lt_of_inv hinv hs fun h => hp (.inl h)
    have hle : t.stepsLeft ≤ (8 * s.inLen - (s.bitpos + n)) + (s.rows - s.row) := hgo.stepsLeft_le hrow
    rw [stepsLeft_inRow hs hp]
    omega
  | row n _ hp hr hgo =>
    have hle : t.stepsLeft ≤ (8 * s.inLen - (s.bitpos + n)) + (s.rows - s.row) := hgo.stepsLeft_le hr
    rw [stepsLeft_rowHead hs (.inl hp)]
    omega
  | tag hp hgo =>
    have hrow := row_lt_of_inv hinv hs (by simp [hp])
    have hle : t.stepsLeft ≤ (8 * s.inLen - (s.bitpos + 1)) + (s.rows - s.row) := hgo.stepsLeft_le hrow
    rw [stepsLeft_rowHead hs (.inr hp)]
    omega
  | leadingEol zeros hz hp hnext =>
    have hleft : t.stepsLeft = (8 * s.inLen - (s.bitpos + (zeros + 1))) + (s.rows - s.row) + 1 := by
      rw [hnext]
      exact stepsLeft_rowHead ⟨hs.busy, hs.started⟩ (.inr rfl)
    rw [stepsLeft_rowHead hs (.inl hp), hleft]
    omega

theorem initDatapath_stepsLeft (s : State) : s.initDatapath.stepsLeft = 8 * s.inLen + s.rows + 1 :=
  stepsLeft_rowHead (s := s.initDatapath) ⟨rfl, rfl⟩ (.inl rfl)

theorem busy_stepsLeft_lt (hinv : s.Inv) (hb : s.status = .busy) (h : step s = .next t) (ht : t.status = .busy) :
    t.stepsLeft < s.stepsLeft := by
  obtain ⟨hn, -⟩ | ⟨-, hc, rfl⟩ | ⟨-, hc, hrun⟩ := step_cases h
  · exact absurd hb hn
  · obtain ⟨hi, -⟩ | ⟨code, -, ha⟩ := start_cases s
    · rw [hi, initDatapath_stepsLeft, stepsLeft_of_start hc]
      exact Nat.lt_succ_self _
    · rw [ha] at ht
      cases ht
  · exact running_stepsLeft_lt hinv ⟨hb, hc⟩ h (hrun.cursorStep ⟨hb, hc⟩) ht

/-- Settles O5: a `BUSY` block steps to `DONE`, to `FAULT`, or stays `BUSY` with fewer steps left. -/
theorem busyStepCountsDown : Obligations.BusyStepCountsDown := by
  intro s hinv hb
  obtain ⟨t, h⟩ := stepNeverStops s hinv
  refine ⟨t, h, ?_⟩
  cases ht : t.status with
  | idle => exact absurd ht (step_status_ne_idle hb h)
  | busy => exact .inr (.inr ⟨rfl, busy_stepsLeft_lt hinv hb h ht⟩)
  | done => exact .inl rfl
  | fault => exact .inr (.inl rfl)

/-! ### Termination (R534) -/

theorem runSteps_succ {k : Nat} (h : step s = .next t) : runSteps (k + 1) s = runSteps k t := by
  have hcore : Sys2Proof.core.step s = .next t := h
  exact (Host.Core.run.eq_2 Sys2Proof.core s k).trans (by rw [hcore]; rfl)

/-- A command that has not ended has a step left: at the head of a row, or in a row of the image. -/
theorem stepsLeft_pos (hinv : s.Inv) (hb : s.status = .busy) : 1 ≤ s.stepsLeft := by
  cases hc : s.cmdStart with
  | true =>
    rw [stepsLeft_of_start hc]
    omega
  | false =>
    by_cases hp : s.pos = .rowStart ∨ s.pos = .tag
    · rw [stepsLeft_rowHead ⟨hb, hc⟩ hp]
      omega
    · have hrow := row_lt_of_inv hinv ⟨hb, hc⟩ fun h => hp (.inl h)
      rw [stepsLeft_inRow ⟨hb, hc⟩ hp]
      omega

/-- A `BUSY` block ends within the steps that it has left. -/
theorem ends_within (n : Nat) (hinv : s.Inv) (hb : s.status = .busy) (hn : s.stepsLeft ≤ n) :
    ∃ k t, 1 ≤ k ∧ k ≤ n ∧ runSteps k s = .next t ∧ (t.status = .done ∨ t.status = .fault) := by
  have hpos := stepsLeft_pos hinv hb
  induction n generalizing s with
  | zero => omega
  | succ n ih =>
    obtain ⟨t, h, hd | hf | ⟨ht, hlt⟩⟩ := busyStepCountsDown s hinv hb
    · exact ⟨1, t, le_rfl, by omega, runSteps_succ h, .inl hd⟩
    · exact ⟨1, t, le_rfl, by omega, runSteps_succ h, .inr hf⟩
    · have htinv := stepKeepsInvariant s t hinv h
      obtain ⟨k, u, -, hk, hrun, hend⟩ := ih htinv ht (by omega) (stepsLeft_pos htinv ht)
      exact ⟨k + 1, u, by omega, by omega, (runSteps_succ h).trans hrun, hend⟩

theorem startWritten_inv (hinv : s.Inv) : s.startWritten.Inv := by
  obtain ⟨hin, hout, -⟩ := hinv
  exact ⟨hin, hout, by simp, fun _ => rfl, by simp⟩

/-- Settles O6: after the write of `CMD_START` the block has `8*LEN + ROWS + 2` steps left. -/
theorem commandTerminates : Obligations.CommandTerminates := by
  intro s hinv hb
  refine ⟨hostStart_status s, ?_⟩
  rw [hostStart_of_not_busy hb]
  exact ends_within _ (startWritten_inv hinv) rfl (stepsLeft_of_start (s := s.startWritten) rfl).le

end Sys2Proof.Machine
end
